-- ==== Sys2Proof/Word.lean ====
section
/-! DEFINITION. The byte a link shifts, and nothing else: every other quantity of the part is a plain number. -/

namespace Sys2Proof

/-- One byte of a link frame, most significant bit first on the wire (R150). -/
abbrev Byte := BitVec 8

end Sys2Proof
end

