-- ==== Sys2Proof/Syntax.lean ====
section
/-! DEFINITION. The commands of the TSC-40: one constructor for each row of spec/opcode_table.json.

A request of a link master is ONE command: the whole valid frame, carried as its link and its body bytes
(the code is the row, the length is the body's length, the CRC byte is right because the frame is valid). -/

namespace Sys2Proof

/-- The four links and their masters' roles (introduction, "The four masters"). -/
inductive Link where
  | advance   -- Link A
  | erector   -- Link E
  | grout     -- Link G
  | spoil     -- Link S
  deriving DecidableEq, Repr

/-- A thrust shoe, 0..15, clockwise from the crown (introduction, "Numbering"). -/
abbrev ShoeIndex := Fin 16

/-- A grout line, L0..L5 (introduction, "Numbering"). -/
abbrev LineIndex := Fin 6

/-- The twenty-six requests of the catalogue, in the order of R157's table. -/
inductive Request where
  | takeNotice | read | linkClear | setLimits
  | configure | planStroke | strokeOpen | strokeEnd | strokeAbort | hold | resume | shoeReset
  | planPieces | claim | withdraw | claimDone | cancel
  | planGroutSet | planGroutDrop | planGroutClear | linePressure | lineClear
  | planFace | facePressure | trainIn | trainDepart
  deriving DecidableEq, Repr

/-- What reaches the part from outside it, one constructor for each row of the table. -/
inductive Instr where
  -- requests any link may send
  | takeNotice (link : Link) (body : List Byte)
  | read (link : Link) (body : List Byte)
  | linkClear (link : Link) (body : List Byte)
  | setLimits (link : Link) (body : List Byte)
  -- requests of the advance master
  | configure (link : Link) (body : List Byte)
  | planStroke (link : Link) (body : List Byte)
  | strokeOpen (link : Link) (body : List Byte)
  | strokeEnd (link : Link) (body : List Byte)
  | strokeAbort (link : Link) (body : List Byte)
  | hold (link : Link) (body : List Byte)
  | resume (link : Link) (body : List Byte)
  | shoeReset (link : Link) (body : List Byte)
  -- requests of the erector master
  | planPieces (link : Link) (body : List Byte)
  | claim (link : Link) (body : List Byte)
  | withdraw (link : Link) (body : List Byte)
  | claimDone (link : Link) (body : List Byte)
  | cancel (link : Link) (body : List Byte)
  -- requests of the grout master
  | planGroutSet (link : Link) (body : List Byte)
  | planGroutDrop (link : Link) (body : List Byte)
  | planGroutClear (link : Link) (body : List Byte)
  | linePressure (link : Link) (body : List Byte)
  | lineClear (link : Link) (body : List Byte)
  -- requests of the spoil master
  | planFace (link : Link) (body : List Byte)
  | facePressure (link : Link) (body : List Byte)
  | trainIn (link : Link) (body : List Byte)
  | trainDepart (link : Link) (body : List Byte)
  -- frames that are not requests of the catalogue, and the select lines
  | unknownRequest (link : Link) (code : Byte) (body : List Byte)
  | frameError (link : Link) (code : Byte) (body : List Byte) (crc : Byte)
  | frameLengthError (link : Link) (code : Byte) (length : Byte)
  | selectRelease (link : Link)
  -- changes of the inputs
  | estopAssert
  | estopRelease
  | travelStep (travP : Bool) (travQ : Bool)
  | screwPulse
  | pumpPulse (line : LineIndex)
  | seatedAsserts (shoe : ShoeIndex)
  | seatedDrops (shoe : ShoeIndex)
  | retractedLimitChange (shoe : ShoeIndex) (level : Bool)
  -- power, reset and the reference clock
  | powerOn
  | resetNAssert
  | resetEnd
  | clockFallback
  | clockRestored
  -- the timebase and the expiry of the part's own timers
  | timebaseTick
  | moveTimeout (shoe : ShoeIndex)
  | drainTimeout
  | stalenessTimeout
  | noPulseTimeout (line : LineIndex)
  | backoffExpiry (line : LineIndex)
  | probeWindowExpiry (line : LineIndex)
  | silenceTimeout (link : Link)
  | checkTimerExpiry (link : Link)
  -- steps the part takes by itself when a condition stands
  | drainCompletion
  | claimGrant
  | strokeToBuild
  | selectAssert (link : Link)
  deriving DecidableEq, Repr

end Sys2Proof
end

