-- ==== Sys2Proof/Decode.lean ====
section
/-! DEFINITION. Request frames: the CRC (R151), the request catalogue (R157), the body lengths each request allows
(R153, R155), and the host's view of the table's bits. -/

namespace Sys2Proof

/-- Fold one byte into the CRC register: exclusive-or, then eight shifts with 31h (R151). -/
def crcFold (reg b : Byte) : Byte :=
  (List.range 8).foldl (fun r _ => if r.msb then (r <<< 1) ^^^ 0x31#8 else r <<< 1) (reg ^^^ b)

/-- The CRC-8 over a list of bytes, starting from FFh, with no final inversion (R151). -/
def crc8 (bytes : List Byte) : Byte := bytes.foldl crcFold 0xFF#8

/-- The largest body a frame carries (R151). -/
def maxBody : Nat := 56

/-- The bytes of a frame before its CRC byte: code, body length, body (R151). -/
def frameBytes (code : Byte) (body : List Byte) : List Byte :=
  code :: BitVec.ofNat 8 body.length :: body

/-- The code of each request (R157). -/
def Request.code : Request → Byte
  | .takeNotice => 0x01#8 | .read => 0x02#8 | .linkClear => 0x03#8 | .setLimits => 0x04#8
  | .configure => 0x10#8 | .planStroke => 0x11#8 | .strokeOpen => 0x12#8 | .strokeEnd => 0x13#8
  | .strokeAbort => 0x14#8 | .hold => 0x15#8 | .resume => 0x16#8 | .shoeReset => 0x17#8
  | .planPieces => 0x20#8 | .claim => 0x21#8 | .withdraw => 0x22#8 | .claimDone => 0x23#8 | .cancel => 0x24#8
  | .planGroutSet => 0x30#8 | .planGroutDrop => 0x31#8 | .planGroutClear => 0x32#8
  | .linePressure => 0x33#8 | .lineClear => 0x34#8
  | .planFace => 0x40#8 | .facePressure => 0x41#8 | .trainIn => 0x42#8 | .trainDepart => 0x43#8

/-- The requests of the catalogue in the table's order (R157). -/
def Request.all : List Request :=
  [.takeNotice, .read, .linkClear, .setLimits,
   .configure, .planStroke, .strokeOpen, .strokeEnd, .strokeAbort, .hold, .resume, .shoeReset,
   .planPieces, .claim, .withdraw, .claimDone, .cancel,
   .planGroutSet, .planGroutDrop, .planGroutClear, .linePressure, .lineClear,
   .planFace, .facePressure, .trainIn, .trainDepart]

/-- The link that may issue a request; `none` for the four every link may issue (R157). -/
def Request.owner : Request → Option Link
  | .takeNotice | .read | .linkClear | .setLimits => none
  | .configure | .planStroke | .strokeOpen | .strokeEnd | .strokeAbort | .hold | .resume | .shoeReset =>
    some .advance
  | .planPieces | .claim | .withdraw | .claimDone | .cancel => some .erector
  | .planGroutSet | .planGroutDrop | .planGroutClear | .linePressure | .lineClear => some .grout
  | .planFace | .facePressure | .trainIn | .trainDepart => some .spoil

/-- Step 3 of R153: whether the request is allowed on the link. -/
def Request.allowedOn (r : Request) (l : Link) : Bool :=
  match r.owner with
  | none => true
  | some o => o = l

/-- Step 4 of R153: the eight requests admitted while the part is unconfigured (R165). -/
def Request.early : Request → Bool
  | .configure | .read | .takeNotice | .linkClear | .setLimits | .trainIn | .trainDepart | .facePressure => true
  | _ => false

/-- Step 5 of R153: the body lengths a request allows, by the fields of R155 and the layouts of R161 and R163. -/
def Request.lengthOK (r : Request) (l : Link) (n : Nat) : Bool :=
  match r with
  | .takeNotice | .linkClear | .strokeOpen | .strokeEnd | .strokeAbort | .hold | .resume | .trainDepart => n = 0
  | .read => n = 3
  | .setLimits =>
    match l with
    | .advance => n = 26
    | .erector => n = 2
    | .grout => n = 16
    | .spoil => n = 10
  | .configure => n = 23
  | .planStroke => n = 3
  | .shoeReset | .claim | .withdraw | .claimDone | .cancel | .facePressure => n = 2
  | .planPieces => (n - 2) % 6 = 0 && 8 ≤ n && n ≤ 50
  | .planGroutSet => n = 7
  | .planGroutDrop => n = 3
  | .planGroutClear | .lineClear => n = 1
  | .linePressure => n % 3 = 0 && 3 ≤ n && n ≤ 18
  | .planFace => n = 11
  | .trainIn => n = 6

/-- Step 2 of R153: whether a code is in the catalogue. -/
def inCatalogue (code : Byte) : Bool := Request.all.any (fun r => r.code = code)

/-- The command that a word spells by the table's bits: none, because no row of the table gives bits (log 2). -/
def decodeTableWord (_nbits _w : Nat) : Option Instr := none

end Sys2Proof
end

