-- ==== Sys2Proof/Config.lean ====
section
/-! DEFINITION. What a part is built with, and the choices the spec leaves to the model. -/

namespace Sys2Proof.Config

/-- Entries of the grout entry pool (R12). -/
def poolEntries : Nat := 32

/-- Largest number of grout entries one chain holds (R12). -/
def chainEntries : Nat := 4

/-- Largest number of grout entries one ring's chains hold together (R12). -/
def ringEntries : Nat := 16

/-- Slice records the balance window holds (R88). -/
def windowRecords : Nat := 8

/-- Records the window must hold before a window ratio is judged (R90). -/
def judgedRecords : Nat := 4

/-- Claims the queue holds (R59). -/
def queueClaims : Nat := 4

/-- Claims that may be active at once (R59, R63). -/
def activeClaims : Nat := 2

/-- Failed probes after which a line is FAILED (R133). -/
def probeLimit : Nat := 5

/-- The cap of a line's backoff, ms (R122, R133). -/
def backoffCap : Nat := 60000

/-- A check timer's period, ms (R147). -/
def checkPeriod : Nat := 1000

/-- Body bytes one READ part carries after its two leading bytes (R158). -/
def readPartBytes : Nat := 118

/-- Rollback, in counts, above which an armed ROLLBACK notice is raised (R32). -/
def rollbackRaise : Nat := 50

/-- Rollback, in counts, at or below which a spent ROLLBACK notice is armed again (R32). -/
def rollbackArm : Nat := 10

/-- The level of each shoe's seated input when `State.reset` was formed: asserted, so that every shoe stands in
BEARING. DESIGN CHOICE (log 1), unsafe: the level is the connected machine's, and the spec gives none. -/
def resetSeated : Bool := true

/-- The level of each shoe's retracted-limit input when `State.reset` was formed: released.
DESIGN CHOICE (log 1), unsafe. -/
def resetRetracted : Bool := false

/-- ESTOP_N when `State.reset` was formed: released. DESIGN CHOICE (log 1), unsafe. -/
def resetEstop : Bool := false

/-- TRAV_P and TRAV_Q when `State.reset` was formed: low. DESIGN CHOICE (log 1), unsafe. -/
def resetTrav : Bool := false

/-- REFCLK when `State.reset` was formed: running. DESIGN CHOICE (log 1), unsafe. -/
def resetRefclk : Bool := true

end Sys2Proof.Config
end

