-- ==== Sys2Proof/Machine/State.lean ====
section
/-! DEFINITION. The whole state of the TSC-40 as plain data, block by block, and the state right after reset. -/

namespace Sys2Proof.Machine

/-! ## Small shared types -/

/-- One value for each of the four links. -/
structure PerLink (α : Type) where
  advance : α
  erector : α
  grout : α
  spoil : α
  deriving DecidableEq, Repr

/-- The value of a link. -/
def PerLink.get {α : Type} (p : PerLink α) : Link → α
  | .advance => p.advance
  | .erector => p.erector
  | .grout => p.grout
  | .spoil => p.spoil

/-- Replace the value of a link. -/
def PerLink.set {α : Type} (p : PerLink α) (l : Link) (x : α) : PerLink α :=
  match l with
  | .advance => { p with advance := x }
  | .erector => { p with erector := x }
  | .grout => { p with grout := x }
  | .spoil => { p with spoil := x }

/-- The same value for every link. -/
def PerLink.all {α : Type} (x : α) : PerLink α := ⟨x, x, x, x⟩

/-- Whether a timer runs (R43, R122). -/
inductive RunState where
  | stopped | running | paused
  deriving DecidableEq, Repr

/-- A timer of the part: its run state and its elapsed time in ms. -/
structure Timer where
  run : RunState
  elapsed : Nat
  deriving DecidableEq, Repr

/-- A timer at rest at 0. -/
def Timer.rest : Timer := ⟨.stopped, 0⟩

/-- Why the part was reset (R149, R166). -/
inductive ResetCause where
  | powerOn | resetPin
  deriving DecidableEq, Repr

/-! ## The input lines (R160) -/

/-- The levels of the input lines that rules read as levels; `true` is asserted (or high, for the travel phases).
The select lines are held as the phase of their link interface. -/
structure Pins where
  seated : Vector Bool 16       -- SEAT0..SEAT15
  retracted : Vector Bool 16    -- RLIM0..RLIM15
  estop : Bool                  -- ESTOP_N asserted
  travP : Bool                  -- TRAV_P high
  travQ : Bool                  -- TRAV_Q high
  resetN : Bool                 -- RESET_N asserted
  refclk : Bool                 -- REFCLK has edges
  deriving DecidableEq, Repr

/-! ## Timebase and reset (R141, R166, R167) -/

/-- The timebase and the restart record. -/
structure Timebase where
  running : Nat                 -- running time, ms, wraps at 4,294,967,296
  fallback : Bool               -- the clock fallback flag
  held : Option ResetCause      -- held in reset, with the cause being recorded
  cause : ResetCause            -- the cause of the last reset
  deriving DecidableEq, Repr

/-! ## The ring store (R2 to R21) -/

/-- One piece of a ring (R3). -/
structure Piece where
  number : Nat
  first : ShoeIndex
  span : Nat
  deriving DecidableEq, Repr

/-- The face plan of a ring (R3). -/
structure FacePlan where
  low : Nat
  high : Nat
  margin : Nat
  fill : Nat
  bulking : Nat
  deriving DecidableEq, Repr

/-- One entry of a grout chain (R12); its line is the chain's index, its successor the next of the list. -/
structure GroutEntry where
  start : Nat                   -- the entry's `from`, mm
  share : Nat
  ceiling : Nat
  deriving DecidableEq, Repr

/-- Six chains of grout entries, one per line, each in ascending order of `from` (R12). -/
abbrev Chains := Vector (List GroutEntry) 6

/-- Where a part of a plan came from (R4). -/
inductive Mark where
  | default | carried | given
  deriving DecidableEq, Repr

/-- The four part marks (R4). -/
structure Marks where
  pieces : Mark
  stroke : Mark
  face : Mark
  grout : Mark
  deriving DecidableEq, Repr

/-- The fields a ring record has in every slot (R3). -/
structure RingPlan where
  number : Nat
  pieces : Option (List Piece)
  target : Option Nat
  endAtTarget : Bool
  face : FacePlan
  marks : Marks
  deriving DecidableEq, Repr

/-- The stroke result (R5). -/
structure StrokeResult where
  finalTravel : Nat
  highWater : Nat
  sliceCount : Nat
  excavated : Nat
  expected : Nat
  removed : Nat
  void : Nat
  grout : Vector Nat 6
  groutTotal : Nat
  shortfall : Vector Nat 6
  timeAdvancing : Nat
  timeHeld : Nat
  deriving DecidableEq, Repr

/-- The seven flags of a ring record (R6). -/
structure RingFlags where
  incompleteStroke : Bool
  groutShort : Bool
  overExcavation : Bool
  underRemoval : Bool
  faceExcursion : Bool
  shoeFault : Bool
  overspeed : Bool
  deriving DecidableEq, Repr

/-- One entry of a placement stack (R77). -/
structure StackEntry where
  piece : Nat
  travel : Nat
  deriving DecidableEq, Repr

/-- The record in the PLAN slot: a plan and its grout chains (R3). -/
structure PlanRing extends RingPlan where
  chains : Chains
  deriving DecidableEq, Repr

/-- The record in the STROKE slot; its chains are absent once its stroke has ended (R3, R19). -/
structure StrokeRing extends RingPlan where
  chains : Option Chains
  result : StrokeResult
  flags : RingFlags
  deriving DecidableEq, Repr

/-- The record in the BUILD or DONE slot; the stack is bottom first (R3, R77). -/
structure BuiltRing extends RingPlan where
  result : StrokeResult
  flags : RingFlags
  stack : List StackEntry
  deriving DecidableEq, Repr

/-- The four slots and the free entries of the grout pool (R2, R12). -/
structure RingStore where
  plan : Option PlanRing
  stroke : Option StrokeRing
  build : Option BuiltRing
  done : Option BuiltRing
  free : Nat
  deriving DecidableEq, Repr

/-! ## The hold-cause set (R24) -/

/-- The twelve possible members, in the order of R24 and of the status summary. -/
inductive HoldCause where
  | estop | masterHold | overspeed | balance | faceLimit | faceStale | trainFull | noTrain
  | groutDebt | advanceLapse | erectorLapse | groutLapse
  deriving DecidableEq, Repr

/-- The hold-cause set: each member present or absent, no duplicates (R24). -/
structure HoldSet where
  estop : Bool
  masterHold : Bool
  overspeed : Bool
  balance : Bool
  faceLimit : Bool
  faceStale : Bool
  trainFull : Bool
  noTrain : Bool
  groutDebt : Bool
  advanceLapse : Bool
  erectorLapse : Bool
  groutLapse : Bool
  deriving DecidableEq, Repr

/-- The set with no member. -/
def HoldSet.empty : HoldSet :=
  ⟨false, false, false, false, false, false, false, false, false, false, false, false⟩

/-! ## The stroke controller (R22 to R42) -/

/-- The stroke state (R22). -/
inductive StrokePhase where
  | none | advancing | held | draining | ended
  deriving DecidableEq, Repr

/-- The open slice: its index and its start in counts (R33). -/
structure OpenSlice where
  index : Nat
  start : Nat
  deriving DecidableEq, Repr

/-- The stroke controller's own state; the hold-cause set stands beside it in `State`. -/
structure StrokeControl where
  phase : StrokePhase
  position : Nat                -- p, counts
  highWater : Nat               -- h, counts
  rollbackArmed : Bool          -- the rollback notice: armed or spent (R32)
  slice : Option OpenSlice
  sliceTimer : Nat              -- ms; runs while ADVANCING (R34)
  drainTimer : Timer            -- R38
  deriving DecidableEq, Repr

/-! ## The shoe table (R43 to R58) -/

/-- The five shoe states (R43). -/
inductive ShoeState where
  | bearing | retracting | clear | extending | fault
  deriving DecidableEq, Repr

/-- The fault reasons (R43). -/
inductive FaultReason where
  | moveTimeout | lostBearing | sensorConflict
  deriving DecidableEq, Repr

/-- A claim id, 0..7 (R59). -/
abbrev ClaimId := Fin 8

/-- A shoe record (R43); its index is its place in the table and its quadrant a function of that index. -/
structure ShoeRecord where
  state : ShoeState
  reason : Option FaultReason
  owner : Option ClaimId
  timer : Timer
  deriving DecidableEq, Repr

/-! ## The build arbiter (R59 to R79) -/

/-- PLACE or WITHDRAW (R59). -/
inductive ClaimKind where
  | place | withdraw
  deriving DecidableEq, Repr

/-- The six states of a claim (R59). -/
inductive ClaimState where
  | waiting | retracting | clear | clamping | returning | faulted
  deriving DecidableEq, Repr

/-- A claim (R59); its shoe set is the span from its first shoe. -/
structure Claim where
  id : ClaimId
  kind : ClaimKind
  piece : Nat
  first : ShoeIndex
  span : Nat
  state : ClaimState
  deriving DecidableEq, Repr

/-- The claim queue, oldest first, and the claim id counter (R59, R60). -/
structure BuildArbiter where
  queue : List Claim
  counter : ClaimId
  deriving DecidableEq, Repr

/-! ## The balance unit (R80 to R95) -/

/-- The configured geometry with the two derived areas (R80, R161). -/
structure Geometry where
  cutDiameter : Nat
  ringDiameter : Nat
  sliceLength : Nat
  pulsesPerRev : Nat
  volumePerRev : Nat
  displacement : Vector Nat 6
  faceArea : Nat
  voidArea : Nat
  deriving DecidableEq, Repr

/-- The cumulative figures as they stood at the previous slice close (R86). -/
structure Snapshot where
  excavated : Nat
  expected : Nat
  removed : Nat
  void : Nat
  grout : Nat
  deriving DecidableEq, Repr

/-- A slice record (R88); a grout ratio of `none` is NOT_JUDGED. -/
structure SliceRecord where
  ring : Nat
  index : Nat
  length : Nat
  time : Nat
  expected : Nat
  removed : Nat
  void : Nat
  grout : Nat
  spoilRatio : Nat
  groutRatio : Option Nat
  rate : Nat
  partialSlice : Bool
  cut : Bool
  deriving DecidableEq, Repr

/-- What a slice close judged of the window (R91, R92, R93). -/
structure Judgement where
  overExcavation : Bool
  underRemoval : Bool
  groutShortfall : Bool
  deriving DecidableEq, Repr

/-- The balance unit's counts, snapshot and window (section 5.2, R88, R93). -/
structure Balance where
  screw : Nat                   -- N, the stroke's screw pulse count
  idle : Nat                    -- the idle pulse count
  strokePulses : Vector Nat 6   -- pump pulses counted in the stroke
  slicePulses : Vector Nat 6    -- pump pulses counted in the open slice
  lastHigh : Nat                -- the last high-water mark passed to BAL
  snapshot : Snapshot
  window : List SliceRecord     -- oldest first
  spoilRatio : Option Nat       -- the window spoil ratio as last judged; none is NOT_JUDGED
  groutRatio : Option Nat       -- the window grout ratio as last judged; none is NOT_JUDGED
  judged : Judgement            -- the judgement of the most recent close
  deriving DecidableEq, Repr

/-! ## The rate governor (R96 to R105) -/

/-- The governor's own state; its four limits belong to limits group A (R96). -/
structure Governor where
  ceiling : Nat                 -- c, mm/min
  threshold : Nat               -- t, mm/min
  overspeeds : Nat              -- the consecutive-overspeed count
  cutMark : Bool                -- the cut-this-slice mark
  deriving DecidableEq, Repr

/-! ## The spoil monitor (R106 to R121) -/

/-- A train record (R113); its fill in dL is formed from these by R114. -/
structure Train where
  number : Nat
  capacity : Nat
  factor : Option Nat           -- the fill factor used
  capacityPulses : Option Nat
  fillPulses : Nat
  urgent : Bool                 -- urgent raised
  deriving DecidableEq, Repr

/-- The face record and the train slots (R106, R113). -/
structure SpoilMonitor where
  pressure : Option Nat         -- last face pressure
  age : Option Nat              -- ms since the last report
  stale : Timer                 -- the staleness timer
  unassigned : Nat              -- the unassigned pulse count
  loading : Option Train
  standby : Option Train
  deriving DecidableEq, Repr

/-! ## The grout scheduler (R122 to R140) -/

/-- The five line states (R122). -/
inductive LineState where
  | closed | opened | blocked | probing | failed
  deriving DecidableEq, Repr

/-- A line record (R122). -/
structure LineRecord where
  state : LineState
  debt : Int
  remainder : Nat
  pressure : Option Nat
  valve : Bool                  -- the valve output: open
  noPulse : Timer
  backoff : Nat
  backoffTimer : Timer
  probes : Nat
  window : Timer                -- the probe window timer
  deriving DecidableEq, Repr

/-! ## Notices (R141, R142) -/

/-- The changes a STROKE notice reports, in the order the rules first name them (R18, R19, R36, R40). -/
inductive StrokeChange where
  | opened | toBuild | draining | ended
  deriving DecidableEq, Repr

/-- What happened to a claim, with the data of that change (R74). -/
inductive ClaimNews where
  | granted
  | clear
  | faulted (shoe : ShoeIndex)
  | completed (travel : Option Nat)
  | returned (faulty : List ShoeIndex)
  | dropped
  deriving DecidableEq, Repr

/-- Where the band of a face report came from (R108). -/
inductive BandSource where
  | stroke | plan
  deriving DecidableEq, Repr

/-- Why the ceiling was cut (R98). -/
inductive CutCause where
  | faceBand | overExcavation | groutShortfall | both
  deriving DecidableEq, Repr

/-- What happened to a line, with the data of that change (R131, R133). -/
inductive LineNews where
  | blocked (pressure ceiling : Nat) (debt : Int) (backoff : Nat)
  | blockedAgain (probes backoff : Nat)
  | opened (probes : Nat)
  | failed (debt : Int)
  deriving DecidableEq, Repr

/-- Why a valve was closed at a dead pulse (R128). -/
inductive DeadReason where
  | noStroke | lineState | noDebt | estop | groutLapse
  deriving DecidableEq, Repr

/-- A notice: its kind, its subject where the kind has one, and its data (R142 and the rules that raise it). -/
inductive Notice where
  | restart (cause : ResetCause)
  | estop (asserted : Bool)
  | lapse (link : Link) (begun : Bool)
  | balance (crown right invert left total quadMin totalMin : Nat)
  | shoeFault (shoe : ShoeIndex) (reason : FaultReason) (left : ShoeState)
  | hold (set : HoldSet)
  | stroke (change : StrokeChange) (ring : Nat)
  | ringClosed (ring : Nat)
  | claim (id : ClaimId) (news : ClaimNews) (kind : ClaimKind) (piece : Nat)
  | train (number fillPulses capacityPulses : Nat) (standby : Bool)
  | silenceCheck (link : Link) (number limit : Nat)
  | overExcavation (ratio records ring slice : Nat)
  | underRemoval (ratio records ring slice : Nat)
  | faceBand (value low high : Nat) (source : BandSource) (ring : Nat) (sliceOpen : Bool)
  | rateCut (cause : CutCause) (before ceiling threshold ring slice : Nat)
  | rateExceeded (rate ceiling margin count ring slice : Nat)
  | rollback (rollback position : Nat)
  | groutShortfall (ratio records ring slice : Nat)
  | trainUrgent (number fillPulses capacityPulses fill capacity : Nat)
  | line (line : LineIndex) (news : LineNews)
  | pumpDead (line : LineIndex) (state : LineState) (debt : Int) (reason : DeadReason)
  deriving DecidableEq, Repr

/-- A record of a notice list (R141); its kind, subject, class and data are those of its notice. -/
structure NoticeRecord where
  notice : Notice
  firstRaised : Nat
  lastRaised : Nat
  repeats : Nat
  deriving DecidableEq, Repr

/-! ## Link interfaces (R146, R150) -/

/-- The phase of the silence sequence (R146). -/
inductive SilencePhase where
  | watching | checking | lapsed
  deriving DecidableEq, Repr

/-- The silence state of a link (R146); the lapse flag is set exactly while the phase is LAPSED. -/
structure Silence where
  armed : Bool
  phase : SilencePhase
  checks : Nat
  silenceTimer : Timer
  checkTimer : Timer
  deriving DecidableEq, Repr

/-- The select period of a link (R150): select released, RECEIVING, or a request taken and answered (TURNAROUND,
RESPONDING and DONE, which only clocked bytes tell apart, log 3). -/
inductive LinkPhase where
  | released | receiving | answered
  deriving DecidableEq, Repr

/-- The result codes (R154). -/
inductive Result where
  | ok | clamped | accepted | wrongState | notPermitted | badValue | full | frameError | unknown
  deriving DecidableEq, Repr

/-- A response (R154): the status summary's nine bytes, the result and the body. -/
structure Response where
  summary : List Byte
  result : Result
  body : List Byte
  deriving DecidableEq, Repr

/-- One link interface: its select period, its frame assembler, the response it holds, its silence state; and the response
it formed last, the model's own record of what the master was answered (log 3). -/
structure LinkInterface where
  phase : LinkPhase
  assembler : List Byte
  response : Option Response
  last : Option Response        -- the model's: the response formed last, also of a period that has ended
  silence : Silence
  deriving DecidableEq, Repr

/-! ## Limits groups (R163) -/

/-- Limits group A. -/
structure LimitsA where
  ceilingMax : Nat
  ceilingFloor : Nat
  step : Nat
  margin : Nat
  quadAdvance : Nat
  totalAdvance : Nat
  quadIdle : Nat
  totalIdle : Nat
  retract : Nat
  extend : Nat
  silent : Nat
  deriving DecidableEq, Repr

/-- Limits group E. -/
structure LimitsE where
  silent : Nat
  deriving DecidableEq, Repr

/-- Limits group G. -/
structure LimitsG where
  block : Nat
  backoff : Nat
  probe : Nat
  debt : Nat
  groutLow : Nat
  drain : Nat
  silent : Nat
  deriving DecidableEq, Repr

/-- Limits group S. -/
structure LimitsS where
  spoilHigh : Nat
  spoilLow : Nat
  urgent : Nat
  stale : Nat
  silent : Nat
  deriving DecidableEq, Repr

/-- The four limits groups. -/
structure Limits where
  a : LimitsA
  e : LimitsE
  g : LimitsG
  s : LimitsS
  deriving DecidableEq, Repr

/-! ## The whole part -/

/-- The TSC-40, block by block, and the queue of the commands that wait (the model's own field). -/
structure State where
  pending : List Instr          -- the model's: commands not yet taken, first in, first out
  pins : Pins
  tmb : Timebase
  configured : Bool
  geo : Geometry
  lim : Limits
  rst : RingStore
  hold : HoldSet
  stc : StrokeControl
  sht : Vector ShoeRecord 16
  bla : BuildArbiter
  bal : Balance
  rgv : Governor
  spm : SpoilMonitor
  grs : Vector LineRecord 6
  ntu : PerLink (List NoticeRecord)
  lif : PerLink LinkInterface
  deriving DecidableEq, Repr

/-- The part stops with no fault: the spec gives every command an effect. -/
inductive Fault where
  deriving DecidableEq, Repr

/-- Why a command has no meaning here. -/
inductive Refusal where
  /-- Raised by an arm of `exec` whose command has no meaning yet: none is left. Safe. -/
  | notModelled (mnemonic : String)
  /-- Raised by a frame command that no frame can be (a body above 56 bytes, a right CRC byte under FRAME_ERROR, a
  catalogue code under UNKNOWN_REQUEST, a length byte of at most 56 under FRAME_LENGTH_ERROR). Safe: such a term is no
  command of the part. -/
  | illFormed
  deriving DecidableEq, Repr

/-! ## Reset values -/

/-- The default limits (R163). -/
def Limits.initial : Limits where
  a := ⟨80, 10, 5, 100, 1, 11, 1, 6, 30000, 30000, 1000⟩
  e := ⟨1000⟩
  g := ⟨5000, 4000, 3000, 2000, 900, 120000, 1000⟩
  s := ⟨1080, 920, 900, 2000, 1000⟩

/-- The geometry of the unconfigured part: every field 0 (R95). -/
def Geometry.unset : Geometry := ⟨0, 0, 0, 0, 0, Vector.replicate 6 0, 0, 0⟩

/-- The empty ring store (R21). -/
def RingStore.initial : RingStore := ⟨none, none, none, none, Config.poolEntries⟩

/-- The hold-cause set formed at reset from the ESTOP_N input: NO_TRAIN always, ESTOP while asserted (R42). -/
def HoldSet.initial (estop : Bool) : HoldSet := { HoldSet.empty with noTrain := true, estop := estop }

/-- The stroke controller after reset (R42). R42 gives the slice timer and the drain timer as stopped; that both stand at 0 is
the model's (DESIGN CHOICE, log 26). -/
def StrokeControl.initial : StrokeControl := ⟨.none, 0, 0, true, none, 0, Timer.rest⟩

/-- A shoe set from its inputs at reset (R58). R58 gives the move timer as stopped; that it stands at 0 is the model's (DESIGN
CHOICE, log 26). -/
def ShoeRecord.initial (seated retracted : Bool) : ShoeRecord :=
  match seated, retracted with
  | true, false => ⟨.bearing, none, none, Timer.rest⟩
  | true, true => ⟨.fault, some .sensorConflict, none, Timer.rest⟩
  | false, _ => ⟨.fault, some .moveTimeout, none, Timer.rest⟩

/-- The build arbiter after reset (R79). -/
def BuildArbiter.initial : BuildArbiter := ⟨[], 0⟩

/-- The snapshot with every figure 0 (R86). -/
def Snapshot.zero : Snapshot := ⟨0, 0, 0, 0, 0⟩

/-- No judgement (R93). -/
def Judgement.nothing : Judgement := ⟨false, false, false⟩

/-- The balance unit after reset (R95). -/
def Balance.initial : Balance :=
  ⟨0, 0, Vector.replicate 6 0, Vector.replicate 6 0, 0, Snapshot.zero, [], none, none, Judgement.nothing⟩

/-- The governor after reset or CONFIGURE, from the limits as they stand (R105). -/
def Governor.initial (a : LimitsA) : Governor := ⟨a.ceilingFloor, a.ceilingMax, 0, false⟩

/-- The spoil monitor after reset (R121). -/
def SpoilMonitor.initial : SpoilMonitor := ⟨none, none, Timer.rest, 0, none, none⟩

/-- A grout line after reset, its backoff at B0 (R122, R140). The no-pulse timer is stopped at 0 by R122, which gives the backoff
timer and the probe window timer as stopped; that these two stand at 0 is the model's (DESIGN CHOICE, log 26). -/
def LineRecord.initial (backoff : Nat) : LineRecord :=
  ⟨.closed, 0, 0, none, false, Timer.rest, backoff, Timer.rest, 0, Timer.rest⟩

/-- The silence state of a link after reset (R146). R146 gives both timers as stopped; that they stand at 0 is the model's
(DESIGN CHOICE, log 26). -/
def Silence.initial : Silence := ⟨false, .watching, 0, Timer.rest, Timer.rest⟩

/-- A link interface with its select released. -/
def LinkInterface.initial : LinkInterface := ⟨.released, [], none, none, Silence.initial⟩

/-- The state every block takes when a reset ends, from the input lines as they stand (R166), with the given notice
lists and the given hold in reset. -/
def State.resetWith (pending : List Instr) (pins : Pins) (held : Option ResetCause) (cause : ResetCause)
    (notices : List NoticeRecord) : State where
  pending := pending
  pins := pins
  tmb := ⟨0, !pins.refclk, held, cause⟩
  configured := false
  geo := Geometry.unset
  lim := Limits.initial
  rst := RingStore.initial
  hold := HoldSet.initial pins.estop
  stc := StrokeControl.initial
  sht := Vector.ofFn fun i => ShoeRecord.initial pins.seated[i] pins.retracted[i]
  bla := BuildArbiter.initial
  bal := Balance.initial
  rgv := Governor.initial Limits.initial.a
  spm := SpoilMonitor.initial
  grs := Vector.replicate 6 (LineRecord.initial Limits.initial.g.backoff)
  ntu := PerLink.all notices
  lif := PerLink.all LinkInterface.initial

/-- The one RESTART record of each list after reset (R149). -/
def restartRecord (cause : ResetCause) : NoticeRecord := ⟨.restart cause, 0, 0, 0⟩

/-- The input lines behind `State.reset`. DESIGN CHOICE (log 1), unsafe: the spec gives no level for them. -/
def Pins.initial : Pins where
  seated := Vector.replicate 16 Config.resetSeated
  retracted := Vector.replicate 16 Config.resetRetracted
  estop := Config.resetEstop
  travP := Config.resetTrav
  travQ := Config.resetTrav
  resetN := false
  refclk := Config.resetRefclk

/-- The part right after a power-on reset has ended (R166), with no command waiting. -/
def State.reset : State :=
  State.resetWith [] Pins.initial none .powerOn [restartRecord .powerOn]

end Sys2Proof.Machine
end

