-- ==== Sys2Proof/Machine/Operands.lean ====
section
/-! DEFINITION. The operand forms: exact arithmetic with saturation and clamping (R1), the byte encodings of fields
(R155), and the body of each request read from its bytes. -/

namespace Sys2Proof.Machine

/-! ## Arithmetic (R1) -/

/-- A quantity that saturates at the top of its range. -/
def sat (top n : Nat) : Nat := min n top

/-- A value clamped into a range: the nearest end of the range. -/
def clamp (lo hi n : Nat) : Nat := max lo (min n hi)

/-- The top of a four-byte field. -/
def top32 : Nat := 4294967295

/-- The top of a pulse counter (R81, R116). -/
def topPulses : Nat := 16777215

/-- ceil(a / b). -/
def ceilDiv (a b : Nat) : Nat := (a + b - 1) / b

/-- A debt saturates at −32,768 and 32,767 (R122). -/
def satDebt (x : Int) : Int := max (-32768) (min x 32767)

/-- Apply a function to every element of a fixed table. -/
def mapAll {α β : Type} {n : Nat} (f : α → β) (v : Vector α n) : Vector β n := Vector.ofFn fun i => f v[i]

/-- The sum of a fixed table of numbers. -/
def sumAll {n : Nat} (v : Vector Nat n) : Nat := v.toList.sum

/-! ## Bytes of fields (R155) -/

/-- A number of two bytes, most significant first. -/
def num2 (n : Nat) : List Byte := [BitVec.ofNat 8 (n / 256), BitVec.ofNat 8 n]

/-- A number of four bytes, most significant first. -/
def num4 (n : Nat) : List Byte :=
  [BitVec.ofNat 8 (n / 16777216), BitVec.ofNat 8 (n / 65536), BitVec.ofNat 8 (n / 256), BitVec.ofNat 8 n]

/-- One byte. -/
def num1 (n : Nat) : List Byte := [BitVec.ofNat 8 n]

/-- A debt: a two-byte integer in two's complement. -/
def debt2 (d : Int) : List Byte := num2 (d % 65536).toNat

/-- A choice of two: one byte, 0 or 1. -/
def choice (b : Bool) : List Byte := [if b then 1#8 else 0#8]

/-- A field that may be absent or none: one byte 0, or one byte 1 and its value. -/
def optional {α : Type} (enc : α → List Byte) : Option α → List Byte
  | none => [0#8]
  | some x => 1#8 :: enc x

/-- The value of bytes, most significant first. -/
def bigEndian (bs : List Byte) : Nat := bs.foldl (fun n b => n * 256 + b.toNat) 0

/-- The `len` bytes of a body from `start`, as a number. -/
def fieldAt (body : List Byte) (start len : Nat) : Nat := bigEndian ((body.drop start).take len)

/-- A choice of two read from the byte at `start`; any byte other than 0 and 1 is no choice. -/
def choiceAt (body : List Byte) (start : Nat) : Option Bool :=
  match fieldAt body start 1 with
  | 0 => some false
  | 1 => some true
  | _ => none

/-! ## Places of named values: the order of the rule that defines the set (R155) -/

def linkOrdinal : Link → Nat
  | .advance => 0 | .erector => 1 | .grout => 2 | .spoil => 3

/-- The four links in the order A, E, G, S. -/
def allLinks : List Link := [.advance, .erector, .grout, .spoil]

def RunState.ordinal : RunState → Nat
  | .stopped => 0 | .running => 1 | .paused => 2

def ResetCause.ordinal : ResetCause → Nat
  | .powerOn => 0 | .resetPin => 1

/-- DEFAULT, CARRIED, GIVEN in the order of R4's table. -/
def Mark.ordinal : Mark → Nat
  | .default => 0 | .carried => 1 | .given => 2

/-- The stroke states as the status summary numbers them (R156). -/
def StrokePhase.ordinal : StrokePhase → Nat
  | .none => 0 | .advancing => 1 | .held => 2 | .draining => 3 | .ended => 4

def ShoeState.ordinal : ShoeState → Nat
  | .bearing => 0 | .retracting => 1 | .clear => 2 | .extending => 3 | .fault => 4

def FaultReason.ordinal : FaultReason → Nat
  | .moveTimeout => 0 | .lostBearing => 1 | .sensorConflict => 2

def ClaimKind.ordinal : ClaimKind → Nat
  | .place => 0 | .withdraw => 1

def ClaimState.ordinal : ClaimState → Nat
  | .waiting => 0 | .retracting => 1 | .clear => 2 | .clamping => 3 | .returning => 4 | .faulted => 5

def LineState.ordinal : LineState → Nat
  | .closed => 0 | .opened => 1 | .blocked => 2 | .probing => 3 | .failed => 4

def StrokeChange.ordinal : StrokeChange → Nat
  | .opened => 0 | .toBuild => 1 | .draining => 2 | .ended => 3

def BandSource.ordinal : BandSource → Nat
  | .stroke => 0 | .plan => 1

def CutCause.ordinal : CutCause → Nat
  | .faceBand => 0 | .overExcavation => 1 | .groutShortfall => 2 | .both => 3

def DeadReason.ordinal : DeadReason → Nat
  | .noStroke => 0 | .lineState => 1 | .noDebt => 2 | .estop => 3 | .groutLapse => 4

/-- The result codes (R154). -/
def Result.code : Result → Byte
  | .ok => 0x00#8 | .clamped => 0x01#8 | .accepted => 0x02#8 | .wrongState => 0x10#8 | .notPermitted => 0x11#8
  | .badValue => 0x12#8 | .full => 0x13#8 | .frameError => 0x20#8 | .unknown => 0x21#8

/-- The result of an accepted write: CLAMPED if a value was changed, OK otherwise. -/
def Result.ofClamp (changed : Bool) : Result := if changed then .clamped else .ok

/-! ## Shoes and spans (introduction, "Numbering") -/

/-- The quadrant of a shoe: 0 crown, 1 right, 2 invert, 3 left. -/
def quadrant (i : ShoeIndex) : Fin 4 := ⟨(i.val + 2) % 16 / 4, by omega⟩

/-- The shoes of a span, counted clockwise from its first shoe and wrapping from 15 to 0. -/
def spanShoes (first : ShoeIndex) (span : Nat) : List ShoeIndex :=
  (List.range span).map fun k => ⟨(first.val + k) % 16, Nat.mod_lt _ (by decide)⟩

/-- The sixteen shoes in index order. -/
def allShoes : List ShoeIndex := List.ofFn fun i => i

/-- The six lines in order. -/
def allLines : List LineIndex := List.ofFn fun i => i

/-! ## Request bodies -/

/-- A line number read from the byte at `start`: none outside L0..L5. -/
def lineAt (body : List Byte) (start : Nat) : Option LineIndex :=
  if h : fieldAt body start 1 < 6 then some ⟨fieldAt body start 1, h⟩ else none

/-- The entries of a list body, `size` bytes each, from its bytes: `n` of them. -/
def chunks (size : Nat) : Nat → List Byte → List (List Byte)
  | 0, _ => []
  | n + 1, bs => bs.take size :: chunks size n (bs.drop size)

/-- A piece entry of PLAN_PIECES before its check: number, first shoe, span (R8). -/
structure RawPiece where
  number : Nat
  first : Nat
  span : Nat
  deriving DecidableEq, Repr

/-- The body of PLAN_PIECES: N and the piece entries it carries (R8). -/
def piecesBody (body : List Byte) : Nat × List RawPiece :=
  (fieldAt body 0 2,
   (chunks 6 ((body.length - 2) / 6) (body.drop 2)).map fun c => ⟨fieldAt c 0 2, fieldAt c 2 2, fieldAt c 4 2⟩)

/-- A piece entry whose first shoe is 0..15 and whose span is 1..4 (R8). -/
def RawPiece.piece? (r : RawPiece) : Option Piece :=
  if h : r.first < 16 then
    if 1 ≤ r.span ∧ r.span ≤ 4 then some ⟨r.number, ⟨r.first, h⟩, r.span⟩ else none
  else none

/-- The five conditions of R8 on N and the entries: N is 5..8 and the list's length, each number 1..N stands exactly
once, each first shoe and span is in range, and the spans cover every shoe exactly once. The pieces come back in
piece-number order. -/
def tiling (n : Nat) (raw : List RawPiece) : Option (List Piece) :=
  if 5 ≤ n ∧ n ≤ 8 ∧ raw.length = n then
    match raw.mapM RawPiece.piece? with
    | none => none
    | some ps =>
      let shoes := ps.flatMap fun p => spanShoes p.first p.span
      if (List.range n).all (fun k => (ps.filter fun p => p.number = k + 1).length = 1)
          && allShoes.all (fun i => shoes.count i = 1)
      then some ((List.range n).filterMap fun k => ps.find? fun p => p.number = k + 1)
      else none
  else none

/-- The body of CONFIGURE (R161). -/
structure ConfigureBody where
  cutDiameter : Nat
  ringDiameter : Nat
  sliceLength : Nat
  pulsesPerRev : Nat
  volumePerRev : Nat
  displacement : Vector Nat 6
  firstRing : Nat
  deriving DecidableEq, Repr

/-- CONFIGURE's 23 bytes (R161). -/
def configureBody (body : List Byte) : ConfigureBody where
  cutDiameter := fieldAt body 0 2
  ringDiameter := fieldAt body 2 2
  sliceLength := fieldAt body 4 1
  pulsesPerRev := fieldAt body 5 2
  volumePerRev := fieldAt body 7 2
  displacement := Vector.ofFn fun i : Fin 6 => fieldAt body (9 + 2 * i.val) 2
  firstRing := fieldAt body 21 2

/-- A number is in a range, both ends included. -/
def within (lo hi n : Nat) : Bool := lo ≤ n && n ≤ hi

/-- Every field of CONFIGURE lies in its range (R161). -/
def ConfigureBody.inRange (c : ConfigureBody) : Bool :=
  within 3000 12000 c.cutDiameter && within 2800 (c.cutDiameter - 20) c.ringDiameter
    && within 10 50 c.sliceLength && within 8 256 c.pulsesPerRev && within 100 20000 c.volumePerRev
    && c.displacement.toList.all (within 5 500) && decide (c.firstRing ≤ 65534)

/-- The geometry of an accepted CONFIGURE with its two areas, π/4 taken as 51,472 / 65,536 (R80). -/
def ConfigureBody.geometry (c : ConfigureBody) : Geometry where
  cutDiameter := c.cutDiameter
  ringDiameter := c.ringDiameter
  sliceLength := c.sliceLength
  pulsesPerRev := c.pulsesPerRev
  volumePerRev := c.volumePerRev
  displacement := c.displacement
  faceArea := c.cutDiameter ^ 2 * 51472 / 65536
  voidArea := (c.cutDiameter ^ 2 - c.ringDiameter ^ 2) * 51472 / 65536

/-- The pairs of LINE_PRESSURE: a line number byte and a value of two bytes (R130). -/
def pressureBody (body : List Byte) : List (Nat × Nat) :=
  (chunks 3 (body.length / 3) body).map fun c => (fieldAt c 0 1, fieldAt c 1 2)

/-- The face plan of PLAN_FACE as sent (R10). -/
def faceBody (body : List Byte) : FacePlan :=
  ⟨fieldAt body 0 2, fieldAt body 2 2, fieldAt body 4 2, fieldAt body 6 2, fieldAt body 8 2⟩

/-- The face plan as R10 stores it: each value clamped, then band high raised to band low. -/
def FacePlan.clamped (f : FacePlan) : FacePlan :=
  let low := clamp 0 1000 f.low
  ⟨low, max low (clamp 0 1000 f.high), clamp 0 200 f.margin, clamp 300 1000 f.fill, clamp 1000 1600 f.bulking⟩

/-- Limits group A as sent: T_retract and T_extend take four bytes (R163). -/
def limitsABody (body : List Byte) : LimitsA :=
  ⟨fieldAt body 0 2, fieldAt body 2 2, fieldAt body 4 2, fieldAt body 6 2, fieldAt body 8 2, fieldAt body 10 2,
   fieldAt body 12 2, fieldAt body 14 2, fieldAt body 16 4, fieldAt body 20 4, fieldAt body 24 2⟩

/-- Limits group A clamped, C_floor against the C_max just stored (R104, R163). -/
def LimitsA.clamped (a : LimitsA) : LimitsA :=
  let cmax := clamp 10 150 a.ceilingMax
  ⟨cmax, clamp 5 cmax a.ceilingFloor, clamp 1 20 a.step, clamp 0 300 a.margin, clamp 0 4 a.quadAdvance,
   clamp 4 16 a.totalAdvance, clamp 0 4 a.quadIdle, clamp 0 16 a.totalIdle, clamp 5000 120000 a.retract,
   clamp 5000 120000 a.extend, clamp 200 5000 a.silent⟩

/-- Limits group E as sent (R163). -/
def limitsEBody (body : List Byte) : LimitsE := ⟨fieldAt body 0 2⟩

/-- Limits group E clamped (R163). -/
def LimitsE.clamped (e : LimitsE) : LimitsE := ⟨clamp 200 5000 e.silent⟩

/-- Limits group G as sent: T_drain takes four bytes (R163). -/
def limitsGBody (body : List Byte) : LimitsG :=
  ⟨fieldAt body 0 2, fieldAt body 2 2, fieldAt body 4 2, fieldAt body 6 2, fieldAt body 8 2, fieldAt body 10 4,
   fieldAt body 14 2⟩

/-- Limits group G clamped (R163). -/
def LimitsG.clamped (g : LimitsG) : LimitsG :=
  ⟨clamp 1000 30000 g.block, clamp 1000 60000 g.backoff, clamp 500 10000 g.probe, clamp 500 50000 g.debt,
   clamp 500 1000 g.groutLow, clamp 10000 600000 g.drain, clamp 200 5000 g.silent⟩

/-- Limits group S as sent (R163). -/
def limitsSBody (body : List Byte) : LimitsS :=
  ⟨fieldAt body 0 2, fieldAt body 2 2, fieldAt body 4 2, fieldAt body 6 2, fieldAt body 8 2⟩

/-- Limits group S clamped (R163). -/
def LimitsS.clamped (s : LimitsS) : LimitsS :=
  ⟨clamp 1000 1300 s.spoilHigh, clamp 700 1000 s.spoilLow, clamp 500 990 s.urgent, clamp 200 10000 s.stale,
   clamp 200 5000 s.silent⟩

/-- The bytes of a group, in the layout SET_LIMITS sends it (R163). -/
def LimitsA.fields (a : LimitsA) : List (List Byte) :=
  [num2 a.ceilingMax, num2 a.ceilingFloor, num2 a.step, num2 a.margin, num2 a.quadAdvance, num2 a.totalAdvance,
   num2 a.quadIdle, num2 a.totalIdle, num4 a.retract, num4 a.extend, num2 a.silent]

def LimitsE.fields (e : LimitsE) : List (List Byte) := [num2 e.silent]

def LimitsG.fields (g : LimitsG) : List (List Byte) :=
  [num2 g.block, num2 g.backoff, num2 g.probe, num2 g.debt, num2 g.groutLow, num4 g.drain, num2 g.silent]

def LimitsS.fields (s : LimitsS) : List (List Byte) :=
  [num2 s.spoilHigh, num2 s.spoilLow, num2 s.urgent, num2 s.stale, num2 s.silent]

end Sys2Proof.Machine
end

