-- ==== Sys2Proof/Machine/Flags.lean ====
section
/-! DEFINITION. The hold-cause set (R24), what follows from the stroke state (R22, R27), the bearing counts and the
balance requirement (R55, R56), the outputs (R44, R144, R160) and the status summary (R156). -/

namespace Sys2Proof.Machine

/-! ## The hold-cause set -/

/-- Whether a member is present. -/
def HoldSet.has (h : HoldSet) : HoldCause → Bool
  | .estop => h.estop | .masterHold => h.masterHold | .overspeed => h.overspeed | .balance => h.balance
  | .faceLimit => h.faceLimit | .faceStale => h.faceStale | .trainFull => h.trainFull | .noTrain => h.noTrain
  | .groutDebt => h.groutDebt | .advanceLapse => h.advanceLapse | .erectorLapse => h.erectorLapse
  | .groutLapse => h.groutLapse

/-- Make a member present or absent (R24). -/
def HoldSet.put (h : HoldSet) (c : HoldCause) (b : Bool) : HoldSet :=
  match c with
  | .estop => { h with estop := b } | .masterHold => { h with masterHold := b }
  | .overspeed => { h with overspeed := b } | .balance => { h with balance := b }
  | .faceLimit => { h with faceLimit := b } | .faceStale => { h with faceStale := b }
  | .trainFull => { h with trainFull := b } | .noTrain => { h with noTrain := b }
  | .groutDebt => { h with groutDebt := b } | .advanceLapse => { h with advanceLapse := b }
  | .erectorLapse => { h with erectorLapse := b } | .groutLapse => { h with groutLapse := b }

/-- The twelve members in the order of the status summary (R24, R156). -/
def allCauses : List HoldCause :=
  [.estop, .masterHold, .overspeed, .balance, .faceLimit, .faceStale, .trainFull, .noTrain,
   .groutDebt, .advanceLapse, .erectorLapse, .groutLapse]

/-- The set holds no member. -/
def HoldSet.isEmpty (h : HoldSet) : Bool := allCauses.all fun c => !h.has c

/-- The member a lapse of the link keeps in the set; a lapse of Link S keeps none (R148). -/
def lapseCause : Link → Option HoldCause
  | .advance => some .advanceLapse
  | .erector => some .erectorLapse
  | .grout => some .groutLapse
  | .spoil => none

/-! ## The stroke state -/

/-- A stroke is open while its state is ADVANCING, HELD or DRAINING (R22). -/
def StrokePhase.isOpen : StrokePhase → Bool
  | .advancing | .held | .draining => true
  | .none | .ended => false

/-- A slice is open while the stroke is ADVANCING or HELD (R22). -/
def StrokePhase.sliceOpen : StrokePhase → Bool
  | .advancing | .held => true
  | .none | .draining | .ended => false

/-- The stroke state after an event that leaves this hold-cause set (R26). -/
def StrokePhase.follow (p : StrokePhase) (h : HoldSet) : StrokePhase :=
  match p with
  | .advancing | .held => if h.isEmpty then .advancing else .held
  | .none => .none
  | .draining => .draining
  | .ended => .ended

/-! ## Bearing counts and the balance requirement -/

/-- Whether a shoe's state is BEARING. -/
def ShoeRecord.isBearing (r : ShoeRecord) : Bool := r.state = .bearing

/-- The bearing shoes of the table that are not among the given ones. -/
def bearingWithout (t : Vector ShoeRecord 16) (away : List ShoeIndex) : List ShoeIndex :=
  allShoes.filter fun i => t[i].isBearing && !away.contains i

/-- A quadrant's bearing count, less the given shoes (R55, R63). -/
def quadCount (t : Vector ShoeRecord 16) (away : List ShoeIndex) (q : Fin 4) : Nat :=
  ((bearingWithout t away).filter fun i => quadrant i = q).length

/-- The total bearing count, less the given shoes (R55, R63). -/
def totalCount (t : Vector ShoeRecord 16) (away : List ShoeIndex) : Nat := (bearingWithout t away).length

/-- The bearing counts, less the given shoes, meet a per-quadrant and a total minimum (R56). -/
def countsMeet (t : Vector ShoeRecord 16) (away : List ShoeIndex) (quadMin totalMin : Nat) : Bool :=
  ([0, 1, 2, 3] : List (Fin 4)).all (fun q => quadMin ≤ quadCount t away q) && totalMin ≤ totalCount t away

/-- The per-quadrant minimum of the set in force (R56). -/
def State.quadMin (s : State) : Nat := if s.stc.phase.isOpen then s.lim.a.quadAdvance else s.lim.a.quadIdle

/-- The total minimum of the set in force (R56). -/
def State.totalMin (s : State) : Nat := if s.stc.phase.isOpen then s.lim.a.totalAdvance else s.lim.a.totalIdle

/-- The bearing counts meet the advance set (R57). -/
def State.meetsAdvance (s : State) : Bool := countsMeet s.sht [] s.lim.a.quadAdvance s.lim.a.totalAdvance

/-! ## Outputs -/

/-- The thrust permit: asserted exactly while the stroke state is ADVANCING (R27). -/
def State.permit (s : State) : Bool := s.stc.phase = .advancing

/-- The drive codes in the order of R44. -/
inductive DriveCode where
  | lock | extendPush | extendClamp | retract
  deriving DecidableEq, Repr

/-- The places of the drive codes (R155). -/
def DriveCode.ordinal : DriveCode → Nat
  | .lock => 0 | .extendPush => 1 | .extendClamp => 2 | .retract => 3

/-- The drive pair's two lines, H and L (R160). -/
def DriveCode.lines : DriveCode → Bool × Bool
  | .lock => (false, false) | .extendClamp => (false, true) | .retract => (true, false) | .extendPush => (true, true)

/-- A shoe's drive code: a function of its state, the permit and ESTOP_N (R44); LOCK while held in reset (R166). -/
def State.drive (s : State) (i : ShoeIndex) : DriveCode :=
  if s.tmb.held.isSome || s.pins.estop then .lock
  else match s.sht[i].state with
    | .bearing => if s.permit then .extendPush else .lock
    | .retracting => .retract
    | .clear => .lock
    | .extending => .extendClamp
    | .fault => .lock

/-- A link's attention output: asserted exactly while its list is non-empty (R144). -/
def State.attention (s : State) (l : Link) : Bool := !(s.ntu.get l).isEmpty

/-- A grout line's valve output (R122, R160). -/
def State.valve (s : State) (i : LineIndex) : Bool := s.grs[i].valve

/-- A link's lapse flag: set exactly while its silence phase is LAPSED (R146). -/
def Silence.lapsed (c : Silence) : Bool := c.phase = .lapsed

/-- The condition under which a link is armed (R146). -/
def State.armCondition (s : State) : Link → Bool
  | .erector => !s.bla.queue.isEmpty
  | .advance | .grout | .spoil => s.stc.phase.isOpen

/-! ## Notices: kind, class, subject, destinations (R142) -/

/-- The place of a notice's kind in the table of R142. -/
def Notice.kind : Notice → Nat
  | .restart .. => 0 | .estop .. => 1 | .lapse .. => 2 | .balance .. => 3 | .shoeFault .. => 4 | .hold .. => 5
  | .stroke .. => 6 | .ringClosed .. => 7 | .claim .. => 8 | .train .. => 9 | .silenceCheck .. => 10
  | .overExcavation .. => 11 | .underRemoval .. => 12 | .faceBand .. => 13 | .rateCut .. => 14
  | .rateExceeded .. => 15 | .rollback .. => 16 | .groutShortfall .. => 17 | .trainUrgent .. => 18
  | .line .. => 19 | .pumpDead .. => 20

/-- The place of a notice's subject among the subjects of its kind; `none` for a kind with no subject. -/
def Notice.subject : Notice → Option Nat
  | .lapse l .. => some (linkOrdinal l)
  | .shoeFault i .. => some i.val
  | .claim c .. => some c.val
  | .line i .. => some i.val
  | .pumpDead i .. => some i.val
  | _ => none

/-- The class of a notice, fixed by its kind. -/
def Notice.noticeClass (n : Notice) : Nat :=
  if n.kind ≤ 4 then 1 else if n.kind ≤ 10 then 2 else 3

/-- The links a notice is destined for. -/
def Notice.links : Notice → List Link
  | .restart .. | .estop .. | .lapse .. | .stroke .. | .ringClosed .. => allLinks
  | .balance .. | .shoeFault .. => [.advance, .erector]
  | .hold .. | .rateCut .. | .rateExceeded .. | .rollback .. => [.advance]
  | .claim .. => [.erector]
  | .train .. | .overExcavation .. | .underRemoval .. | .faceBand .. => [.advance, .spoil]
  | .silenceCheck l .. => [l]
  | .groutShortfall .. => [.advance, .grout]
  | .trainUrgent .. => [.spoil]
  | .line .. | .pumpDead .. => [.grout]

/-- The key of a notice: its kind together with its subject (R141). -/
def Notice.key (n : Notice) : Nat × Option Nat := (n.kind, n.subject)

/-! ## The status summary (R156) -/

/-- A byte from eight flags, bit 0 first. -/
def flagByte (bits : List Bool) : Byte :=
  BitVec.ofNat 8 (bits.foldr (fun b n => 2 * n + b.toNat) 0)

/-- The hold-cause set as bytes 1 and 2 of the status summary. -/
def HoldSet.bytes (h : HoldSet) : List Byte :=
  [flagByte ((allCauses.take 8).map h.has), flagByte ((allCauses.drop 8).map h.has)]

/-- The highest class present in a list, 0 when it is empty (R144). -/
def highestClass (ns : List NoticeRecord) : Nat :=
  [1, 2, 3].find? (fun c => ns.any fun r => r.notice.noticeClass = c) |>.getD 0

/-- The entries on the BUILD ring's stack, 0 while BUILD is empty (R77). -/
def State.stackCount (s : State) : Nat := (s.rst.build.map fun b => b.stack.length).getD 0

/-- The ring number of the PLAN record, 0 while there is none (R2). -/
def State.planNumber (s : State) : Nat := (s.rst.plan.map fun p => p.number).getD 0

/-- The nine bytes of the status summary for a link (R156). -/
def State.summary (s : State) (l : Link) : List Byte :=
  [BitVec.ofNat 8 (s.stc.phase.ordinal + 8 * s.permit.toNat + 16 * s.pins.estop.toNat + 32 * s.configured.toNat
     + 64 * s.tmb.fallback.toNat)]
  ++ s.hold.bytes
  ++ [BitVec.ofNat 8 (s.stackCount + 16 * s.bla.queue.length),
      BitVec.ofNat 8 s.rgv.ceiling,
      BitVec.ofNat 8 (s.ntu.get l).length,
      BitVec.ofNat 8 (highestClass (s.ntu.get l) + 128 * (s.lif.get l).silence.lapsed.toNat)]
  ++ num2 s.planNumber

/-- The bytes of a response, with its CRC byte (R154). -/
def Response.bytes (r : Response) : List Byte :=
  let front := r.summary ++ [r.result.code, BitVec.ofNat 8 r.body.length] ++ r.body
  front ++ [crc8 front]

/-! ## The data outputs (R150, R160) -/

/-- The phases of a select period (R150), and the link with its select released. -/
inductive SelectPhase where
  | released | receiving | turnaround | responding | done
  deriving DecidableEq, Repr

/-- The phase of a link's select period after `clocked` bytes have been clocked since RECEIVING ended: two bytes of
TURNAROUND, the bytes of the response in RESPONDING, any further ones in DONE (R150). -/
def LinkInterface.selectPhase (c : LinkInterface) (clocked : Nat) : SelectPhase :=
  match c.phase, c.response with
  | .released, _ => .released
  | .receiving, _ => .receiving
  | .answered, none => if clocked < 2 then .turnaround else .done
  | .answered, some r =>
    if clocked < 2 then .turnaround else if clocked < 2 + r.bytes.length then .responding else .done

/-- The byte a link interface shifts out next: none, at high impedance, while its select is released; the response in
RESPONDING; 00h in every other phase (R150). -/
def LinkInterface.dataOut (c : LinkInterface) (clocked : Nat) : Option Byte :=
  match c.selectPhase clocked with
  | .released => none
  | .responding => some ((c.response.bind fun r => r.bytes[clocked - 2]?).getD 0#8)
  | .receiving | .turnaround | .done => some 0#8

/-- SDO of a link, after `clocked` bytes since RECEIVING ended (R150, R160); at high impedance while held in reset (R166). -/
def State.dataOut (s : State) (l : Link) (clocked : Nat) : Option Byte :=
  if s.tmb.held.isSome then none else (s.lif.get l).dataOut clocked

end Sys2Proof.Machine
end

