-- ==== Sys2Proof/Machine/Ops.lean ====
section
/-! DEFINITION. One event of the part: the state being worked on, the notices raised so far and the hold-cause set the
event began with. How an event ends (R24, R26, R141), how a link is armed and disarmed (R146), how a response is built
(R154). -/

namespace Sys2Proof.Machine

/-- An event in progress: the state, the notices it has raised in order, and the hold-cause set last reported. -/
structure Ev extends State where
  raised : List Notice
  base : HoldSet
  deriving DecidableEq, Repr

/-- The start of an event. -/
def Ev.begin (s : State) : Ev := { toState := s, raised := [], base := s.hold }

/-! ## Block by block updates -/

/-- Update the `pins` block. -/
def Ev.modPins (e : Ev) (f : Pins → Pins) : Ev := { e with pins := f e.pins }

/-- Update the `tmb` block. -/
def Ev.modTmb (e : Ev) (f : Timebase → Timebase) : Ev := { e with tmb := f e.tmb }

/-- Update the `rst` block. -/
def Ev.modRst (e : Ev) (f : RingStore → RingStore) : Ev := { e with rst := f e.rst }

/-- Update the `hold` block. -/
def Ev.modHold (e : Ev) (f : HoldSet → HoldSet) : Ev := { e with hold := f e.hold }

/-- Update the `stc` block. -/
def Ev.modStc (e : Ev) (f : StrokeControl → StrokeControl) : Ev := { e with stc := f e.stc }

/-- Update the `sht` block. -/
def Ev.modSht (e : Ev) (f : Vector ShoeRecord 16 → Vector ShoeRecord 16) : Ev := { e with sht := f e.sht }

/-- Update the `bla` block. -/
def Ev.modBla (e : Ev) (f : BuildArbiter → BuildArbiter) : Ev := { e with bla := f e.bla }

/-- Update the `bal` block. -/
def Ev.modBal (e : Ev) (f : Balance → Balance) : Ev := { e with bal := f e.bal }

/-- Update the `rgv` block. -/
def Ev.modRgv (e : Ev) (f : Governor → Governor) : Ev := { e with rgv := f e.rgv }

/-- Update the `spm` block. -/
def Ev.modSpm (e : Ev) (f : SpoilMonitor → SpoilMonitor) : Ev := { e with spm := f e.spm }

/-- Update the `grs` block. -/
def Ev.modGrs (e : Ev) (f : Vector LineRecord 6 → Vector LineRecord 6) : Ev := { e with grs := f e.grs }

/-- Update the `ntu` block. -/
def Ev.modNtu (e : Ev) (f : PerLink (List NoticeRecord) → PerLink (List NoticeRecord)) : Ev := { e with ntu := f e.ntu }

/-- Update the `lif` block. -/
def Ev.modLif (e : Ev) (f : PerLink LinkInterface → PerLink LinkInterface) : Ev := { e with lif := f e.lif }

/-- Update the `lim` block. -/
def Ev.modLim (e : Ev) (f : Limits → Limits) : Ev := { e with lim := f e.lim }

/-- Update the `geo` block. -/
def Ev.modGeo (e : Ev) (f : Geometry → Geometry) : Ev := { e with geo := f e.geo }

/-- Update the `configured` block. -/
def Ev.modConfigured (e : Ev) (f : Bool → Bool) : Ev := { e with configured := f e.configured }

/-- Raise a notice; the lists take it when the event's records are placed (R141). -/
def Ev.raise (e : Ev) (n : Notice) : Ev := { e with raised := e.raised ++ [n] }

/-- Make a member of the hold-cause set present or absent (R24). -/
def Ev.putHold (e : Ev) (c : HoldCause) (b : Bool) : Ev := e.modHold fun h => h.put c b

/-- Do something only when a condition holds. -/
def Ev.when (e : Ev) (b : Bool) (f : Ev → Ev) : Ev := if b then f e else e

/-- Do something for each element of a list, in order. -/
def Ev.each {α : Type} (e : Ev) (xs : List α) (f : Ev → α → Ev) : Ev := xs.foldl f e

/-! ## Notices into their lists (R141) -/

/-- Place one raised notice in a list: a record with its key takes the new data and one more repeat, and keeps its
place and first-raised; otherwise a new record stands at the end. -/
def addRecord (now : Nat) (n : Notice) (ns : List NoticeRecord) : List NoticeRecord :=
  if ns.any fun r => r.notice.key = n.key then
    ns.map fun r =>
      if r.notice.key = n.key then
        { r with notice := n, lastRaised := now, repeats := sat 255 (r.repeats + 1) }
      else r
  else ns ++ [⟨n, now, now, 0⟩]

/-- Place one raised notice in the list of every link it is destined for. -/
def raiseOn (now : Nat) (p : PerLink (List NoticeRecord)) (n : Notice) : PerLink (List NoticeRecord) :=
  n.links.foldl (fun q l => q.set l (addRecord now n (q.get l))) p

/-- The order in which one event's records are created: the kinds of R142's table, then ascending subject. -/
def noticeLE (a b : Notice) : Bool :=
  a.kind < b.kind || (a.kind = b.kind && a.subject.getD 0 ≤ b.subject.getD 0)

/-- The notices of an event in the order their records are created; those of one key stay in the order raised. -/
def inOrder (ns : List Notice) : List Notice := ns.insertionSort fun a b => noticeLE a b = true

/-- Place every notice raised so far in its lists. -/
def Ev.flush (e : Ev) : Ev :=
  { e with ntu := (inOrder e.raised).foldl (raiseOn e.tmb.running) e.ntu, raised := [] }

/-! ## The end of an event -/

/-- The stroke state follows the hold-cause set (R26). -/
def Ev.followHold (e : Ev) : Ev := e.modStc fun c => { c with phase := c.phase.follow e.hold }

/-- One HOLD notice for an event that changed the set, its data the set as it now stands (R24). -/
def Ev.reportHold (e : Ev) : Ev :=
  if e.hold = e.base then e else { e.raise (.hold e.hold) with base := e.hold }

/-- Bring the stroke state, the HOLD notice and the notice lists up to date. -/
def Ev.settle (e : Ev) : Ev := e.followHold.reportHold.flush

/-- The state an event leaves. -/
def Ev.close (e : Ev) : State := e.settle.toState

/-- A whole event on a state: nothing but the input levels moves while the part is held in reset (R166). -/
def State.event (s : State) (f : Ev → Ev) : State :=
  if s.tmb.held.isSome then s else (f (Ev.begin s)).close

/-! ## Timers -/

/-- Stop a timer; its elapsed time stays (log 9). -/
def Timer.stop (t : Timer) : Timer := { t with run := .stopped }

/-- Start a timer at elapsed 0. -/
def Timer.start : Timer := ⟨.running, 0⟩

/-- Start a timer at elapsed 0, paused when something holds it. -/
def Timer.startUnless (held : Bool) : Timer := ⟨if held then .paused else .running, 0⟩

/-- Pause a running timer; it keeps its elapsed time. -/
def Timer.pause (t : Timer) : Timer := if t.run = .running then { t with run := .paused } else t

/-- Let a paused timer run on from its elapsed time. -/
def Timer.resume (t : Timer) : Timer := if t.run = .paused then { t with run := .running } else t

/-- Start a paused timer afresh from 0 (R45). -/
def Timer.restart (t : Timer) : Timer := if t.run = .paused then Timer.start else t

/-- One millisecond of a running timer, saturating (R1, R167). -/
def Timer.tick (top : Nat) (t : Timer) : Timer :=
  if t.run = .running then { t with elapsed := sat top (t.elapsed + 1) } else t

/-- A running timer whose elapsed time has reached a limit. -/
def Timer.reached (t : Timer) (limit : Nat) : Bool := t.run = .running && limit ≤ t.elapsed

/-! ## Arming and disarming a link (R146) -/

/-- Update one link interface. -/
def Ev.modLink (e : Ev) (l : Link) (f : LinkInterface → LinkInterface) : Ev :=
  e.modLif fun p => p.set l (f (p.get l))

/-- Update the silence state of a link. -/
def Ev.modSilence (e : Ev) (l : Link) (f : Silence → Silence) : Ev :=
  e.modLink l fun c => { c with silence := f c.silence }

/-- Arming: in WATCHING the silence timer starts at 0; a lapsed link stays lapsed with no timer. -/
def Silence.arm (c : Silence) : Silence :=
  { c with armed := true, silenceTimer := if c.phase = .watching then Timer.start else c.silenceTimer }

/-- Disarming: both timers stop, the check count returns to 0, CHECKING returns to WATCHING, LAPSED stays. -/
def Silence.disarm (c : Silence) : Silence where
  armed := false
  phase := if c.phase = .lapsed then .lapsed else .watching
  checks := 0
  silenceTimer := c.silenceTimer.stop
  checkTimer := c.checkTimer.stop

/-- The silence state after its arming condition has been looked at again. -/
def Silence.follow (c : Silence) (want : Bool) : Silence :=
  if want = c.armed then c else if want then c.arm else c.disarm

/-- Each link interface follows its arming condition in the event that changes it. -/
def Ev.judgeArming (e : Ev) : Ev :=
  e.each allLinks fun e l => e.modSilence l fun c => c.follow (e.armCondition l)

/-! ## Responses (R150, R154) -/

/-- What a request comes to: a result and the body of an accepted one. -/
structure Reply where
  result : Result
  body : List Byte
  deriving DecidableEq, Repr

/-- A refusal: a result with no body. -/
def Reply.refuse (r : Result) : Reply := ⟨r, []⟩

/-- OK with no body. -/
def Reply.ok : Reply := ⟨.ok, []⟩

/-- The link interface takes frames: the part is not held in reset, and the select period has not already carried its
one transaction (R150, R166). -/
def State.receives (s : State) (l : Link) : Bool :=
  !s.tmb.held.isSome && decide ((s.lif.get l).phase ≠ .answered)

/-- The link interface after a frame: an open select period holds the frame's bytes and the response; a frame that came
with no select period open stands for a whole one, its select released again and its response gone with it (log 3). -/
def LinkInterface.answer (c : LinkInterface) (frame : List Byte) (r : Response) : LinkInterface :=
  if c.phase = .receiving then { c with phase := .answered, assembler := frame, response := some r, last := some r }
  else { c with response := none, last := some r }

/-- The response is formed from the state the request's event left (R154). -/
def State.respond (s : State) (l : Link) (frame : List Byte) (r : Reply) : State :=
  { s with lif := s.lif.set l ((s.lif.get l).answer frame ⟨s.summary l, r.result, r.body⟩) }

/-- Update the ring in the STROKE slot, if there is one. -/
def Ev.modStrokeRing (e : Ev) (f : StrokeRing → StrokeRing) : Ev :=
  e.modRst fun r => { r with stroke := r.stroke.map f }

/-- Update the ring in the BUILD slot, if there is one. -/
def Ev.modBuildRing (e : Ev) (f : BuiltRing → BuiltRing) : Ev :=
  e.modRst fun r => { r with build := r.build.map f }

/-- Update the ring in the PLAN slot, if there is one. -/
def Ev.modPlanRing (e : Ev) (f : PlanRing → PlanRing) : Ev :=
  e.modRst fun r => { r with plan := r.plan.map f }

/-- Update the stroke result of the STROKE ring. -/
def Ev.modResult (e : Ev) (f : StrokeResult → StrokeResult) : Ev :=
  e.modStrokeRing fun r => { r with result := f r.result }

/-- Update the flags of the STROKE ring; with no ring in STROKE no flag is set (R6). -/
def Ev.modStrokeFlags (e : Ev) (f : RingFlags → RingFlags) : Ev :=
  e.modStrokeRing fun r => { r with flags := f r.flags }

/-- The ring number of the STROKE ring. -/
def State.strokeNumber (s : State) : Nat := (s.rst.stroke.map fun r => r.number).getD 0

end Sys2Proof.Machine
end

