-- ==== Sys2Proof/Machine/Monitor.lean ====
section
/-! DEFINITION. The rate governor's cut and its close (R96 to R104), and the spoil monitor inside an event: the band in
force, the trains, NO_TRAIN and TRAIN_FULL (R106 to R120). -/

namespace Sys2Proof.Machine

/-! ## The governor (R98 to R104) -/

/-- A cut, made unless the open slice has already been cut (R98). -/
def Ev.cutCeiling (e : Ev) (cause : CutCause) (slice : Nat) : Ev :=
  if e.rgv.cutMark then e
  else
    let before := e.rgv.ceiling
    let e := e.modRgv fun g =>
      { g with threshold := max (before / 2) e.lim.a.ceilingFloor, ceiling := e.lim.a.ceilingFloor, cutMark := true }
    e.raise (.rateCut cause before e.rgv.ceiling e.rgv.threshold e.strokeNumber slice)

/-- A full slice is overspeed: 1,000 × rate > c × (1,000 + margin), both products exact (R101). -/
def State.overspeed (s : State) (rate : Nat) : Bool :=
  s.rgv.ceiling * (1000 + s.lim.a.margin) < 1000 * rate

/-- Step 1 of a close for a full slice: the overspeed judgement and the consecutive count (R101, R103). -/
def Ev.judgeOverspeed (e : Ev) (rate slice : Nat) : Ev :=
  if e.overspeed rate then
    let e := e.modRgv fun g => { g with overspeeds := sat 2 (g.overspeeds + 1) }
    let e := e.raise (.rateExceeded rate e.rgv.ceiling e.lim.a.margin e.rgv.overspeeds e.strokeNumber slice)
    if e.rgv.overspeeds = 2 && !e.hold.overspeed then
      (e.putHold .overspeed true).modStrokeFlags fun f => { f with overspeed := true }
    else e
  else e.modRgv fun g => { g with overspeeds := 0 }

/-- The ceiling after recovery: doubling below the threshold, one step at or above it (R102). -/
def Governor.recovered (g : Governor) (a : LimitsA) : Nat :=
  if g.ceiling < g.threshold then min (2 * g.ceiling) g.threshold else min (g.ceiling + a.step) a.ceilingMax

/-- Step 3 of a close for a full slice that was not cut (R100, R102). -/
def Ev.recover (e : Ev) : Ev :=
  if e.rgv.cutMark then e else e.modRgv fun g => { g with ceiling := g.recovered e.lim.a }

/-- The governor's work at a slice close, steps 1 to 3 of R100. -/
def Ev.governSlice (e : Ev) (rate slice : Nat) (partialSlice : Bool) (excursion : Option CutCause) : Ev :=
  let e := e.when (!partialSlice) fun e => e.judgeOverspeed rate slice
  let e := match excursion with | none => e | some cause => e.cutCeiling cause slice
  e.when (!partialSlice) Ev.recover

/-- A limits write clamps the ceiling and the threshold into the new range (R104). It does no more in an unconfigured part,
whose ceiling a lower C_floor leaves above the floor, though R165 speaks of it at C_floor (DESIGN CHOICE, log 27). -/
def Governor.clampTo (g : Governor) (a : LimitsA) : Governor :=
  { g with ceiling := clamp a.ceilingFloor a.ceilingMax g.ceiling,
           threshold := clamp a.ceilingFloor a.ceilingMax g.threshold }

/-! ## The band in force (R108) -/

/-- The band in force: its face plan, its source and the ring it came from; none while the part is unconfigured. -/
def State.bandInForce (s : State) : Option (FacePlan × BandSource × Nat) :=
  if s.stc.phase.isOpen then s.rst.stroke.map fun r => (r.face, .stroke, r.number)
  else s.rst.plan.map fun p => (p.face, .plan, p.number)

/-- Outside the band: below band low or above band high (R109). -/
def FacePlan.outsideBand (f : FacePlan) (v : Nat) : Bool := v < f.low || f.high < v

/-- Outside the hard limits, which run from max(band low − margin, 0) to band high + margin (R110). -/
def FacePlan.outsideHard (f : FacePlan) (v : Nat) : Bool := v < f.low - f.margin || f.high + f.margin < v

/-! ## Trains (R113 to R120) -/

/-- The fill factor in force: the STROKE ring's while a stroke is open, the PLAN ring's otherwise (R114). -/
def State.fillFactor (s : State) : Nat :=
  (s.bandInForce.map fun b => b.1.fill).getD 0

/-- The capacity pulses of a capacity under a geometry and a fill factor (R114). -/
def capacityPulsesOf (g : Geometry) (f capacity : Nat) : Nat :=
  sat topPulses (ceilDiv (capacity * g.pulsesPerRev * 1000) (g.volumePerRev * f))

/-- A train with its capacity pulses computed for a fill factor (R114). -/
def Train.computed (t : Train) (g : Geometry) (f : Nat) : Train :=
  { t with factor := some f, capacityPulses := some (capacityPulsesOf g f t.capacity) }

/-- A train's fill in dL; 0 while its fill factor used is none (R114). -/
def Train.fill (t : Train) (g : Geometry) : Nat :=
  match t.factor with
  | none => 0
  | some f => sat 2147483647 (t.fillPulses * g.volumePerRev * f / (g.pulsesPerRev * 1000))

/-- The loading train's fill pulses have reached its capacity pulses (R118). -/
def SpoilMonitor.full (m : SpoilMonitor) : Bool :=
  match m.loading with
  | none => false
  | some t => match t.capacityPulses with
    | none => false
    | some n => n ≤ t.fillPulses

/-- The loading train is urgent (R117). -/
def Train.isUrgent (t : Train) (u : Nat) : Bool :=
  match t.capacityPulses with
  | none => false
  | some n => n * u ≤ t.fillPulses * 1000

/-- SPM judges TRAIN_FULL; its beginning raises a TRAIN notice, its end none (R118). -/
def Ev.judgeFull (e : Ev) : Ev :=
  if e.spm.full && !e.hold.trainFull then
    match e.spm.loading with
    | none => e
    | some t =>
      (e.putHold .trainFull true).raise
        (.train t.number t.fillPulses (t.capacityPulses.getD 0) e.spm.standby.isSome)
  else e.putHold .trainFull e.spm.full

/-- SPM keeps NO_TRAIN exactly while no train is loading (R120). -/
def Ev.judgeNoTrain (e : Ev) : Ev := e.putHold .noTrain e.spm.loading.isNone

/-- SPM judges the loading train's urgency: each train is reported urgent at most once (R117). -/
def Ev.judgeUrgent (e : Ev) : Ev :=
  match e.spm.loading with
  | none => e
  | some t =>
    if t.isUrgent e.lim.s.urgent && !t.urgent then
      (e.modSpm fun m => { m with loading := some { t with urgent := true } }).raise
        (.trainUrgent t.number t.fillPulses (t.capacityPulses.getD 0) (t.fill e.geo) t.capacity)
    else e

/-- NO_TRAIN, TRAIN_FULL and urgency after a change of the loading train. -/
def Ev.judgeTrains (e : Ev) : Ev := e.judgeNoTrain.judgeFull.judgeUrgent

/-- The loading train takes the unassigned pulses (R115, R119). -/
def SpoilMonitor.takeUnassigned (m : SpoilMonitor) : SpoilMonitor :=
  match m.loading with
  | none => m
  | some t =>
    { m with loading := some { t with fillPulses := sat topPulses (t.fillPulses + m.unassigned) }, unassigned := 0 }

/-- Both trains recomputed for a fill factor, then judged (R114). -/
def Ev.recomputeTrains (e : Ev) (f : Nat) : Ev :=
  (e.modSpm fun m => { m with loading := m.loading.map fun t => t.computed e.geo f,
                              standby := m.standby.map fun t => t.computed e.geo f }).judgeTrains

/-- A screw pulse at the spoil monitor (R116). -/
def SpoilMonitor.pulse (m : SpoilMonitor) : SpoilMonitor :=
  match m.loading with
  | none => { m with unassigned := sat topPulses (m.unassigned + 1) }
  | some t => { m with loading := some { t with fillPulses := sat topPulses (t.fillPulses + 1) } }

/-- FACE_STALE judged against T_stale while a stroke is open (R111). -/
def State.staleNow (s : State) : Bool := s.stc.phase.isOpen && decide (s.lim.s.stale ≤ s.spm.stale.elapsed)

end Sys2Proof.Machine
end

