-- ==== Sys2Proof/Machine/Arbiter.lean ====
section
/-! DEFINITION. Shoes, claims and ring close: what the shoe table and the build arbiter do inside an event
(R45 to R57, R60 to R78, R19, R20). -/

namespace Sys2Proof.Machine

/-! ## Shoes (R46 to R53) -/

/-- Update one shoe record. -/
def Ev.modShoe (e : Ev) (i : ShoeIndex) (f : ShoeRecord → ShoeRecord) : Ev :=
  e.modSht fun t => t.set i.val (f t[i]) i.isLt

/-- Update every shoe record. -/
def Ev.modShoes (e : Ev) (f : ShoeRecord → ShoeRecord) : Ev := e.modSht (mapAll f)

/-- A move timer starts at elapsed 0, paused while ESTOP_N is asserted (R45, R48). -/
def Ev.moveTimer (e : Ev) : Timer := Timer.startUnless e.pins.estop

/-- The claim in the queue that has an id. -/
def BuildArbiter.find (b : BuildArbiter) (id : ClaimId) : Option Claim := b.queue.find? fun c => c.id = id

/-- Update the claim that has an id. -/
def Ev.modClaim (e : Ev) (id : ClaimId) (f : Claim → Claim) : Ev :=
  e.modBla fun b => { b with queue := b.queue.map fun c => if c.id = id then f c else c }

/-- Raise a CLAIM notice, with the claim's kind and piece (R74). -/
def Ev.claimNews (e : Ev) (c : Claim) (news : ClaimNews) : Ev := e.raise (.claim c.id news c.kind c.piece)

/-- A claim's shoe set (R59). -/
def Claim.shoes (c : Claim) : List ShoeIndex := spanShoes c.first c.span

/-- An active claim: any state other than WAITING (R59). -/
def Claim.active (c : Claim) : Bool := c.state ≠ .waiting

/-- The effect on a claim of a fault on a shoe it owns (R70). -/
def Ev.faultClaim (e : Ev) (i : ShoeIndex) : Ev :=
  match e.sht[i].owner.bind e.bla.find with
  | none => e
  | some c =>
    match c.state with
    | .retracting | .clear | .clamping =>
      (e.modClaim c.id fun c => { c with state := .faulted }).claimNews c (.faulted i)
    | .faulted => e.claimNews c (.faulted i)
    | .waiting | .returning => e

/-- A shoe enters FAULT: steps 1, 3, 4 and 5 of R51. The counts and BALANCE are judged when the event's shoe changes
are all made (`Ev.shoesMoved`). -/
def Ev.enterFault (e : Ev) (i : ShoeIndex) (why : FaultReason) : Ev :=
  let left := e.sht[i].state
  let e := e.modShoe i fun r => { r with state := .fault, reason := some why, timer := r.timer.stop }
  let e := e.raise (.shoeFault i why left)
  let e := e.modStrokeFlags fun f => { f with shoeFault := true }
  let e := e.modBuildRing fun r => { r with flags := { r.flags with shoeFault := true } }
  e.faultClaim i

/-- A shoe enters BEARING; its timer stops and it keeps its owner (R47). -/
def Ev.enterBearing (e : Ev) (i : ShoeIndex) : Ev :=
  e.modShoe i fun r => { r with state := .bearing, timer := r.timer.stop }

/-- A shoe enters EXTENDING, from any source, and is judged against its inputs in the same event (R47, R52). -/
def Ev.enterExtending (e : Ev) (i : ShoeIndex) : Ev :=
  let e := e.modShoe i fun r => { r with state := .extending, reason := none, timer := e.moveTimer }
  if e.pins.seated[i] && !e.pins.retracted[i] then e.enterBearing i
  else if e.pins.seated[i] && e.pins.retracted[i] then e.enterFault i .sensorConflict
  else e

/-- The extend command: no effect in BEARING, EXTENDING and FAULT (R47). -/
def Ev.extendCommand (e : Ev) (i : ShoeIndex) : Ev :=
  match e.sht[i].state with
  | .retracting | .clear => e.enterExtending i
  | .bearing | .extending | .fault => e

/-- The retract command of a grant: no effect outside BEARING (R46). -/
def Ev.retractCommand (e : Ev) (id : ClaimId) (i : ShoeIndex) : Ev :=
  match e.sht[i].state with
  | .bearing => e.modShoe i fun r => { r with state := .retracting, owner := some id, timer := e.moveTimer }
  | .retracting | .clear | .extending | .fault => e

/-- A shoe answers a change of its inputs that left these levels; `rose` tells that the seated input, or the limit,
has just asserted (R46, R47, R49, R50 and the table of section 3.4). -/
def Ev.seatedRose (e : Ev) (i : ShoeIndex) : Ev :=
  if e.pins.retracted[i] then
    if e.sht[i].state = .fault then e else e.enterFault i .sensorConflict
  else if e.sht[i].state = .extending then e.enterBearing i
  else e

/-- The seated input drops: LOST_BEARING in BEARING, no effect elsewhere (R46, R49). -/
def Ev.seatedFell (e : Ev) (i : ShoeIndex) : Ev :=
  if e.sht[i].state = .bearing then e.enterFault i .lostBearing else e

/-- The retracted limit asserts: RETRACTING goes to CLEAR while seated is released; both asserted is a conflict
(R46, R50). -/
def Ev.limitRose (e : Ev) (i : ShoeIndex) : Ev :=
  if e.pins.seated[i] then
    if e.sht[i].state = .fault then e else e.enterFault i .sensorConflict
  else if e.sht[i].state = .retracting then
    e.modShoe i fun r => { r with state := .clear, timer := r.timer.stop }
  else e

/-! ## Balance (R57) -/

/-- BALANCE is kept while a stroke is open and the counts fall short of the advance set; its beginning raises a BALANCE
notice, its end none (R57). -/
def Ev.judgeBalance (e : Ev) : Ev :=
  let short := e.stc.phase.isOpen && !e.meetsAdvance
  if short && !e.hold.balance then
    (e.putHold .balance true).raise
      (.balance (quadCount e.sht [] 0) (quadCount e.sht [] 1) (quadCount e.sht [] 2) (quadCount e.sht [] 3)
        (totalCount e.sht []) e.lim.a.quadAdvance e.lim.a.totalAdvance)
  else e.putHold .balance short

/-! ## The store's hand-over (R19, R20) -/

/-- The grout entries of six chains. -/
def chainCount (c : Chains) : Nat := sumAll (mapAll List.length c)

/-- A ring entering BUILD: its chains are gone, its stack is empty (R3, R19). -/
def StrokeRing.toBuilt (r : StrokeRing) : BuiltRing :=
  { toRingPlan := r.toRingPlan, result := r.result, flags := r.flags, stack := [] }

/-- The ring in STROKE moves into BUILD and the stroke state becomes NONE, with the STROKE notice TO_BUILD, if the stroke
is ENDED and BUILD is empty (R19 step 3, R20 step 4, R22). -/
def Ev.strokeToBuild (e : Ev) : Ev :=
  match e.rst.stroke, e.rst.build, e.stc.phase with
  | some r, none, .ended =>
    ((e.modRst fun t => { t with stroke := none, build := some r.toBuilt }).modStc fun c =>
      { c with phase := .none }).raise (.stroke .toBuild r.number)
  | _, _, _ => e

/-- The stack holds all N planned pieces with the key on top (R78). -/
def BuiltRing.complete (b : BuiltRing) : Bool :=
  match b.pieces with
  | none => false
  | some ps =>
    ps.all (fun p => b.stack.any fun t => t.piece = p.number)
      && (b.stack.getLast?.map fun t => t.piece) == some ps.length

/-- Ring close, when the BUILD ring is complete and the queue empty: BUILD moves to DONE, RING_CLOSED is raised and a
waiting ENDED ring moves into BUILD (R20, R78). -/
def Ev.judgeRingClose (e : Ev) : Ev :=
  match e.rst.build with
  | none => e
  | some b =>
    if b.complete && e.bla.queue.isEmpty then
      ((e.modRst fun t => { t with build := none, done := some b }).raise (.ringClosed b.number)).strokeToBuild
    else e

/-! ## Claims (R63 to R73) -/

/-- A claim leaves the queue and its shoes lose their owner (R73, R53). -/
def Ev.removeClaim (e : Ev) (c : Claim) : Ev :=
  (e.modBla fun b => { b with queue := b.queue.filter fun d => d.id ≠ c.id }).each c.shoes fun e i =>
    e.modShoe i fun r => if r.owner = some c.id then { r with owner := none } else r

/-- The travel at seating: floor(h / 10) mm while a stroke is open, 0 otherwise (R69). -/
def State.seatingTravel (s : State) : Nat := if s.stc.phase.isOpen then s.stc.highWater / 10 else 0

/-- A CLAMPING claim completes (R69, steps 1 to 4, the grant apart). -/
def Ev.completeClaim (e : Ev) (c : Claim) : Ev :=
  let travel := e.seatingTravel
  match c.kind with
  | .place =>
    ((((e.modBuildRing fun b => { b with stack := b.stack ++ [⟨c.piece, travel⟩] }).removeClaim c).claimNews c
      (.completed (some travel)))).judgeRingClose
  | .withdraw => ((e.removeClaim c).claimNews c (.completed none)).judgeRingClose

/-- The shoes of a claim's set that are in FAULT. -/
def Ev.faultyShoes (e : Ev) (c : Claim) : List ShoeIndex := c.shoes.filter fun i => e.sht[i].state = .fault

/-- A claim follows the states its shoes have reached: to CLEAR (R66), to its completion (R69), or out of RETURNING
(R72). -/
def Ev.followClaim (e : Ev) (id : ClaimId) : Ev :=
  match e.bla.find id with
  | none => e
  | some c =>
    match c.state with
    | .retracting =>
      if c.shoes.all fun i => e.sht[i].state = .clear then
        (e.modClaim id fun c => { c with state := .clear }).claimNews c .clear
      else e
    | .clamping => if c.shoes.all fun i => e.sht[i].state = .bearing then e.completeClaim c else e
    | .returning =>
      if c.shoes.all fun i => e.sht[i].state = .bearing || e.sht[i].state = .fault then
        ((e.claimNews c (.returned (e.faultyShoes c))).removeClaim c).judgeRingClose
      else e
    | .waiting | .clear | .faulted => e

/-- Every claim of the queue follows its shoes. -/
def Ev.followClaims (e : Ev) : Ev := e.each (e.bla.queue.map Claim.id) Ev.followClaim

/-- The oldest WAITING claim (R63). -/
def BuildArbiter.oldestWaiting (b : BuildArbiter) : Option Claim := b.queue.find? fun c => c.state = .waiting

/-- The conditions of R63 in their order; `balance` is condition 3. -/
inductive WaitReason where
  | twoActive | shoesNotBearing | balance
  deriving DecidableEq, Repr

/-- Which condition of R63 fails first for a claim; `none` when all three hold. -/
def State.waitReason (s : State) (c : Claim) : Option WaitReason :=
  if Config.activeClaims ≤ (s.bla.queue.filter Claim.active).length then some .twoActive
  else if !c.shoes.all fun i => s.sht[i].isBearing && s.sht[i].owner.isNone then some .shoesNotBearing
  else if !countsMeet s.sht c.shoes s.quadMin s.totalMin then some .balance
  else none

/-- A claim is granted (R65). -/
def Ev.grantClaim (e : Ev) (c : Claim) : Ev :=
  ((e.modClaim c.id fun c => { c with state := .retracting }).each c.shoes fun e i =>
    e.retractCommand c.id i).claimNews c .granted

/-- The grant condition evaluated for the oldest WAITING claim, and again after each grant (R63, R64). -/
def Ev.grantUpTo (e : Ev) : Nat → Ev
  | 0 => e
  | n + 1 =>
    match e.bla.oldestWaiting with
    | none => e
    | some c =>
      match e.waitReason c with
      | some _ => e
      | none => (e.grantClaim c).grantUpTo n

/-- The evaluation of an event: at most as many grants as there are claims (R64). -/
def Ev.grants (e : Ev) : Ev := e.grantUpTo Config.queueClaims

/-- What follows when an event may have moved shoes, claims, the stroke state or the balance minimums: the claims follow
their shoes, BALANCE is judged, the grant is evaluated, BALANCE is judged on the counts after it, and Link E follows the
queue (R55, R57, R64, R146). -/
def Ev.shoesMoved (e : Ev) : Ev :=
  e.followClaims.judgeBalance.grants.judgeBalance.judgeArming

/-- The effects of a lapse of Link E on the queue: every WAITING claim is dropped (R76). -/
def Ev.dropWaiting (e : Ev) : Ev :=
  (e.each (e.bla.queue.filter fun c => c.state = .waiting) fun e c =>
    (e.removeClaim c).claimNews c .dropped).judgeRingClose.shoesMoved

end Sys2Proof.Machine
end

