-- ==== Sys2Proof/Machine/Scheduler.lean ====
section
/-! DEFINITION. The grout scheduler inside an event: active entries, demand, valves, blockage, backoff and probing, the
debt hold and the recording of shortfalls (R16, R122 to R139). -/

namespace Sys2Proof.Machine

/-- Update one line record. -/
def Ev.modLine (e : Ev) (i : LineIndex) (f : LineRecord → LineRecord) : Ev :=
  e.modGrs fun t => t.set i.val (f t[i]) i.isLt

/-- The active entry of a chain at x mm: the last one whose `from` is not above x (R16). -/
def activeEntry (chain : List GroutEntry) (x : Nat) : Option GroutEntry :=
  (chain.filter fun g => g.start ≤ x).getLast?

/-- The share and pressure ceiling with no active entry (R16). -/
def noEntry : GroutEntry := ⟨0, 0, 1500⟩

/-- A line's active entry in the STROKE ring's chains at x mm, or the values of R16 when there is none. -/
def State.entryAt (s : State) (i : LineIndex) (x : Nat) : GroutEntry :=
  match s.rst.stroke.bind fun r => r.chains with
  | none => noEntry
  | some chains => (activeEntry chains[i] x).getD noEntry

/-- The position at which a pressure ceiling is taken: floor(h / 10) mm (R131). -/
def State.strokeMm (s : State) : Nat := s.stc.highWater / 10

/-- A line's active pressure ceiling (R131). -/
def State.lineCeiling (s : State) (i : LineIndex) : Nat := (s.entryAt i s.strokeMm).ceiling

/-! ## Valves (R126) -/

/-- The five conditions under which a line's valve is open (R126). -/
def State.valveWanted (s : State) (i : LineIndex) : Bool :=
  (s.grs[i].state = .opened || s.grs[i].state = .probing) && decide (0 < s.grs[i].debt)
    && s.stc.phase.isOpen && !s.pins.estop && !s.hold.groutLapse

/-- The line record after its valve has been judged: an OPEN line's no-pulse timer runs from each opening and stops at
each closing (R126). -/
def LineRecord.withValve (r : LineRecord) (want : Bool) : LineRecord :=
  if want = r.valve then r
  else if want then { r with valve := true, noPulse := if r.state = .opened then Timer.start else r.noPulse }
  else { r with valve := false, noPulse := r.noPulse.stop }

/-- GRS judges one valve. -/
def Ev.judgeValve (e : Ev) (i : LineIndex) : Ev := e.modLine i fun r => r.withValve (e.valveWanted i)

/-- GRS judges every valve. -/
def Ev.judgeValves (e : Ev) : Ev := e.each allLines Ev.judgeValve

/-! ## The debt hold (R136) -/

/-- The total positive debt. -/
def State.totalDebt (s : State) : Nat := sumAll (mapAll (fun r : LineRecord => r.debt.toNat) s.grs)

/-- GROUT_DEBT with its hysteresis against H. -/
def Ev.judgeDebt (e : Ev) : Ev :=
  if e.lim.g.debt < e.totalDebt then e.putHold .groutDebt true
  else if 2 * e.totalDebt ≤ e.lim.g.debt then e.putHold .groutDebt false
  else e

/-! ## Demand (R125) -/

/-- One line's demand of a slice: its share of the void, with the thousandths carried in the remainder. -/
def LineRecord.demand (r : LineRecord) (void share : Nat) : LineRecord :=
  if r.state = .closed then r
  else
    let milli := void * share + r.remainder
    { r with debt := satDebt (r.debt + (milli / 1000 : Nat)), remainder := milli % 1000 }

/-- The demand of slice `index` on every line, taken at the slice's start, then the valves and GROUT_DEBT. -/
def Ev.sliceDemand (e : Ev) (void index : Nat) : Ev :=
  let x := (index - 1) * e.geo.sliceLength
  ((e.each allLines fun e i => e.modLine i fun r => r.demand void (e.entryAt i x).share).judgeValves).judgeDebt

/-! ## Blockage, backoff, probing (R131 to R135) -/

/-- The four conditions under which an OPEN line is blocked (R131). -/
def State.lineBlocks (s : State) (i : LineIndex) : Bool :=
  let r := s.grs[i]
  r.state = .opened && r.valve && (match r.pressure with | none => false | some p => s.lineCeiling i ≤ p)
    && r.noPulse.reached s.lim.g.block

/-- A line is judged blocked (R131, steps 1 to 5). -/
def Ev.blockLine (e : Ev) (i : LineIndex) : Ev :=
  let e := e.modLine i fun r =>
    { r with state := .blocked, noPulse := r.noPulse.stop, backoff := e.lim.g.backoff, probes := 0,
             backoffTimer := Timer.startUnless e.pins.estop }
  let e := e.judgeValve i
  e.raise (.line i (.blocked (e.grs[i].pressure.getD 0) (e.lineCeiling i) e.grs[i].debt e.grs[i].backoff))

/-- GRS judges blockage for a line. -/
def Ev.judgeBlockage (e : Ev) (i : LineIndex) : Ev := e.when (e.lineBlocks i) fun e => e.blockLine i

/-- A probe window's timer is held while ESTOP_N is asserted or GROUT_LAPSE is present (R134). -/
def State.windowHeld (s : State) : Bool := s.pins.estop || s.hold.groutLapse

/-- A BLOCKED line whose backoff timer has reached its backoff (R132). -/
def State.backoffDue (s : State) (i : LineIndex) : Bool :=
  s.grs[i].state = .blocked && s.grs[i].backoffTimer.reached s.grs[i].backoff

/-- Backoff expiry: the line goes to PROBING (R132). -/
def Ev.startProbe (e : Ev) (i : LineIndex) : Ev :=
  (e.modLine i fun r =>
    { r with state := .probing, backoffTimer := r.backoffTimer.stop,
             window := Timer.startUnless e.windowHeld }).judgeValve i

/-- GRS judges a line's backoff timer. -/
def Ev.judgeBackoff (e : Ev) (i : LineIndex) : Ev := e.when (e.backoffDue i) fun e => e.startProbe i

/-- A PROBING line whose window has reached W_probe (R133). -/
def State.windowDue (s : State) (i : LineIndex) : Bool :=
  s.grs[i].state = .probing && s.grs[i].window.reached s.lim.g.probe

/-- A probe fails: FAILED at the fifth, BLOCKED with a doubled backoff before it (R133). -/
def Ev.failProbe (e : Ev) (i : LineIndex) : Ev :=
  let probes := e.grs[i].probes + 1
  if Config.probeLimit ≤ probes then
    let e := (e.modLine i fun r =>
      { r with state := .failed, probes := probes, window := r.window.stop, noPulse := r.noPulse.stop,
               backoffTimer := r.backoffTimer.stop }).judgeValve i
    e.raise (.line i (.failed e.grs[i].debt))
  else
    let backoff := min (2 * e.grs[i].backoff) Config.backoffCap
    let e := (e.modLine i fun r =>
      { r with state := .blocked, probes := probes, window := r.window.stop, backoff := backoff,
               backoffTimer := Timer.startUnless e.pins.estop }).judgeValve i
    e.raise (.line i (.blockedAgain probes backoff))

/-- GRS judges a line's probe window. -/
def Ev.judgeWindow (e : Ev) (i : LineIndex) : Ev := e.when (e.windowDue i) fun e => e.failProbe i

/-! ## The drain condition and the end of a stroke (R137, R138) -/

/-- Every line in OPEN, BLOCKED or PROBING owes less than its displacement (R137). -/
def State.drained (s : State) : Bool :=
  allLines.all fun i =>
    match s.grs[i].state with
    | .opened | .blocked | .probing => s.grs[i].debt < (s.geo.displacement[i] : Int)
    | .closed | .failed => true

/-- A line's shortfall: its debt, if above 0 (R138). -/
def State.shortfalls (s : State) : Vector Nat 6 := mapAll (fun r : LineRecord => r.debt.toNat) s.grs

/-- Some line's shortfall is at or above its displacement (R138). -/
def State.groutIsShort (s : State) : Bool := allLines.any fun i => s.geo.displacement[i] ≤ s.shortfalls[i]

/-- A line closed at the end of a stroke; a FAILED line stays FAILED, every debt and remainder becomes 0 (R138). -/
def LineRecord.atEnd (r : LineRecord) (backoff : Nat) : LineRecord :=
  if r.state = .failed then { r with debt := 0, remainder := 0, valve := false }
  else
    { r with state := .closed, debt := 0, remainder := 0, valve := false, noPulse := r.noPulse.stop, backoff := backoff,
             backoffTimer := r.backoffTimer.stop, probes := 0, window := r.window.stop }

/-- The shortfalls recorded, GROUT_SHORT set where due, the lines closed, GROUT_DEBT judged (R138). -/
def Ev.recordShortfall (e : Ev) : Ev :=
  let falls := e.shortfalls
  let short := e.groutIsShort
  let e := e.modResult fun r => { r with shortfall := falls }
  let e := e.when short fun e => e.modStrokeFlags fun f => { f with groutShort := true }
  (e.modGrs (mapAll fun r => r.atEnd e.lim.g.backoff)).judgeDebt

/-- A line at STROKE_OPEN: its remainder becomes 0 and a CLOSED line goes to OPEN (R124). -/
def LineRecord.atOpen (r : LineRecord) (backoff : Nat) : LineRecord :=
  if r.state = .closed then
    { r with remainder := 0, state := .opened, noPulse := Timer.rest, backoff := backoff, probes := 0 }
  else { r with remainder := 0 }

/-- The lines at STROKE_OPEN (R124). -/
def Ev.openLines (e : Ev) : Ev := (e.modGrs (mapAll fun r => r.atOpen e.lim.g.backoff)).judgeValves

/-- The lines when ESTOP_N asserts: valves close, backoff and window timers pause (R134). -/
def Ev.stopLines (e : Ev) : Ev :=
  (e.modGrs (mapAll fun r => { r with backoffTimer := r.backoffTimer.pause, window := r.window.pause })).judgeValves

/-- The lines when ESTOP_N is released: valves judged, backoff timers resume, window timers resume unless GROUT_LAPSE
holds them; one that stands at its limit expires in this event (R134, R139). Of several that stand there the windows expire
before the backoffs, each in ascending order of line, and the drain is judged once, after them all (DESIGN CHOICE, log 25). -/
def Ev.restartLines (e : Ev) : Ev :=
  let e := e.modGrs (mapAll fun r =>
    { r with backoffTimer := r.backoffTimer.resume,
             window := if e.windowHeld then r.window else r.window.resume })
  (e.judgeValves.each allLines Ev.judgeWindow).each allLines Ev.judgeBackoff

/-- The lines when Link G lapses: every valve closes and every probe window pauses (R134, R148). -/
def Ev.lapseLines (e : Ev) : Ev :=
  (e.modGrs (mapAll fun r => { r with window := r.window.pause })).judgeValves

/-- The lines when a lapse of Link G ends: valves judged, probe windows resume unless ESTOP_N holds them; one that
stands at its limit expires in this event (R134, R139, R148), several in ascending order of line (DESIGN CHOICE, log 25). -/
def Ev.unlapseLines (e : Ev) : Ev :=
  let e := e.modGrs (mapAll fun r => { r with window := if e.windowHeld then r.window else r.window.resume })
  e.judgeValves.each allLines Ev.judgeWindow

end Sys2Proof.Machine
end

