-- ==== Sys2Proof/Machine/Advance.lean ====
section
/-! DEFINITION. The volume arithmetic, the slice close, and the course of a stroke inside an event: its opening, its
move to DRAINING and its end (R23, R31 to R41, R80 to R94). -/

namespace Sys2Proof.Machine

/-! ## Cumulative volumes (R83 to R85) -/

/-- Excavated: floor(A_face × h / 1,000,000) dL, saturated (R83). -/
def excavatedOf (g : Geometry) (h : Nat) : Nat := sat top32 (g.faceArea * h / 1000000)

/-- Expected spoil: floor(E × b / 1,000) dL, from E rounded down (R83). -/
def expectedOf (excavated bulking : Nat) : Nat := sat top32 (excavated * bulking / 1000)

/-- Void: floor(A_void × h / 1,000,000) dL (R83). -/
def voidOf (g : Geometry) (h : Nat) : Nat := sat top32 (g.voidArea * h / 1000000)

/-- Removed: floor(N × V_rev × f / (P × 1,000)) dL (R84). -/
def removedOf (g : Geometry) (n f : Nat) : Nat := sat top32 (n * g.volumePerRev * f / (g.pulsesPerRev * 1000))

/-- The stroke result with p and h as they stand (R31). -/
def StrokeResult.atTravel (r : StrokeResult) (p h : Nat) : StrokeResult := { r with finalTravel := p, highWater := h }

/-- BAL recomputes the three volumes of h (R83, R85). -/
def Ev.passHigh (e : Ev) : Ev :=
  let h := e.stc.highWater
  (e.modBal fun b => { b with lastHigh := h }).modStrokeRing fun r =>
    let excavated := excavatedOf e.geo h
    { r with result := { r.result with excavated := excavated, expected := expectedOf excavated r.face.bulking,
                                       void := voidOf e.geo h } }

/-- BAL recomputes the removed volume from N (R84, R85). -/
def Ev.passScrew (e : Ev) : Ev :=
  e.modStrokeRing fun r => { r with result := { r.result with removed := removedOf e.geo e.bal.screw r.face.fill } }

/-- The grout total of six pulse counts: the exact sum of k_i × d_i, saturated (R84). -/
def groutTotalOf (g : Geometry) (pulses : Vector Nat 6) : Nat :=
  sat top32 (allLines.map fun i => pulses[i] * g.displacement[i]).sum

/-- BAL counts a counted pump pulse and recomputes the grout volumes (R82, R84). -/
def Ev.passPump (e : Ev) (i : LineIndex) : Ev :=
  let e := e.modBal fun b =>
    { b with strokePulses := b.strokePulses.set i.val (sat top32 (b.strokePulses[i] + 1)) i.isLt,
             slicePulses := if e.stc.phase.sliceOpen
               then b.slicePulses.set i.val (sat top32 (b.slicePulses[i] + 1)) i.isLt else b.slicePulses }
  e.modResult fun r =>
    { r with grout := r.grout.set i.val (sat top32 (e.bal.strokePulses[i] * e.geo.displacement[i])) i.isLt,
             groutTotal := groutTotalOf e.geo e.bal.strokePulses }

/-! ## The slice close (R86 to R92) -/

/-- 1,000 × numerator / denominator rounded half up, clamped to 0..9,999 (R87). -/
def ratioOf (num den : Nat) : Nat := sat 9999 ((2000 * num + den) / (2 * den))

/-- A ratio that is not formed when its denominator is 0 (R87, R90). -/
def ratioOr (num den : Nat) : Option Nat := if den = 0 then none else some (ratioOf num den)

/-- The rate of a slice: floor(length × 6,000 / max(t, 1)) mm/min (R87). -/
def rateOf (length time : Nat) : Nat := sat 3000000 (length * 6000 / max time 1)

/-- The slice record of a close, its cut field still to be filled (R86 to R88). -/
def sliceRecord (ring index length time : Nat) (isPartial : Bool) (r : StrokeResult) (old : Snapshot) : SliceRecord :=
  let expected := r.expected - old.expected
  let removed := r.removed - old.removed
  let void := r.void - old.void
  let grout := r.groutTotal - old.grout
  { ring := ring, index := index, length := length, time := time, expected := expected, removed := removed,
    void := void, grout := grout, spoilRatio := ratioOf removed expected, groutRatio := ratioOr grout void,
    rate := rateOf length time, partialSlice := isPartial, cut := false }

/-- The figures now standing (R86). -/
def StrokeResult.snapshot (r : StrokeResult) : Snapshot :=
  ⟨r.excavated, r.expected, r.removed, r.void, r.groutTotal⟩

/-- Enter a record at the newest end of the window, dropping the oldest beyond eight (R88). -/
def enterWindow (w : List SliceRecord) (r : SliceRecord) : List SliceRecord :=
  (w ++ [r]).drop ((w ++ [r]).length - Config.windowRecords)

/-- The sum of one figure over the window (R90). -/
def windowSum (w : List SliceRecord) (f : SliceRecord → Nat) : Nat := (w.map f).sum

/-- A window ratio, judged only with four records and a denominator above 0 (R90). -/
def windowRatio (w : List SliceRecord) (num den : SliceRecord → Nat) : Option Nat :=
  if w.length < Config.judgedRecords then none else ratioOr (windowSum w num) (windowSum w den)

/-- A judged ratio lies above a limit. -/
def above (r : Option Nat) (limit : Nat) : Bool := match r with | none => false | some x => limit < x

/-- A judged ratio lies below a limit. -/
def below (r : Option Nat) (limit : Nat) : Bool := match r with | none => false | some x => x < limit

/-- Steps 1 and 2 of a close: the record enters the window, the snapshot is taken, the slice pulse counts start again,
the stroke result's slice count rises (R86, R88, R89). -/
def Ev.enterSlice (e : Ev) (index length time : Nat) (isPartial : Bool) : Ev :=
  match e.rst.stroke with
  | none => e
  | some ring =>
    (e.modBal fun b =>
      { b with window := enterWindow b.window
                 (sliceRecord ring.number index length time isPartial ring.result b.snapshot),
               snapshot := ring.result.snapshot, slicePulses := Vector.replicate 6 0 }).modResult fun r =>
        { r with sliceCount := sat 65535 (r.sliceCount + 1) }

/-- Step 3 of a close: the window is judged (R90 to R92). -/
def Ev.judgeWindowRatios (e : Ev) (index : Nat) : Ev :=
  let w := e.bal.window
  let spoil := windowRatio w SliceRecord.removed SliceRecord.expected
  let grout := windowRatio w SliceRecord.grout SliceRecord.void
  let tooMuch := above spoil e.lim.s.spoilHigh
  let under := below spoil e.lim.s.spoilLow
  let short := below grout e.lim.g.groutLow
  let ring := e.strokeNumber
  let e := e.modBal fun b => { b with spoilRatio := spoil, groutRatio := grout, judged := ⟨tooMuch, under, short⟩ }
  let e := e.when tooMuch fun e =>
    (e.raise (.overExcavation (spoil.getD 0) w.length ring index)).modStrokeFlags fun f =>
      { f with overExcavation := true }
  let e := e.when under fun e =>
    (e.raise (.underRemoval (spoil.getD 0) w.length ring index)).modStrokeFlags fun f => { f with underRemoval := true }
  e.when short fun e => e.raise (.groutShortfall (grout.getD 0) w.length ring index)

/-- The excursion mark a judgement hands the governor (R89, R92). -/
def Judgement.excursion (j : Judgement) : Option CutCause :=
  match j.overExcavation, j.groutShortfall with
  | true, true => some .both
  | true, false => some .overExcavation
  | false, true => some .groutShortfall
  | false, false => none

/-- Update the newest record of the window. -/
def markNewest (w : List SliceRecord) (cut : Bool) : List SliceRecord :=
  match w.reverse with
  | [] => []
  | r :: older => (({ r with cut := cut } : SliceRecord) :: older).reverse

/-- One slice close, in the order of R89. -/
def Ev.closeSlice (e : Ev) (index length time : Nat) (isPartial : Bool) : Ev :=
  let e := e.enterSlice index length time isPartial
  let e := e.judgeWindowRatios index
  let void := (e.bal.window.getLast?.map SliceRecord.void).getD 0
  let rate := rateOf length time
  let e := e.sliceDemand void index
  let e := e.governSlice rate index isPartial e.bal.judged.excursion
  let cut := e.rgv.cutMark
  (e.modBal fun b => { b with window := markNewest b.window cut }).modRgv fun g => { g with cutMark := false }

/-! ## The end of a stroke (R40) -/

/-- The stroke becomes ENDED, with every effect of R40. -/
def Ev.endStroke (e : Ev) : Ev :=
  let e := e.modStc fun c => { c with phase := .ended, slice := none, drainTimer := c.drainTimer.stop }
  let e := e.recordShortfall
  let e := e.judgeBalance
  let e := (e.modSpm fun m => { m with stale := m.stale.stop }).putHold .faceStale false
  let e := e.judgeArming
  let e := e.raise (.stroke .ended e.strokeNumber)
  let freed := ((e.rst.stroke.bind fun r => r.chains).map chainCount).getD 0
  let e := (e.modStrokeRing fun r => { r with chains := none }).modRst fun t => { t with free := t.free + freed }
  e.strokeToBuild.grants.judgeBalance.judgeArming

/-- The drain condition, reported to the stroke controller in DRAINING (R39, R137). -/
def Ev.judgeDrain (e : Ev) : Ev := e.when (e.stc.phase = .draining && e.drained) Ev.endStroke

/-- The drain timer has reached T_drain in DRAINING (R38, R39). -/
def State.drainDue (s : State) : Bool := s.stc.phase = .draining && s.stc.drainTimer.reached s.lim.g.drain

/-- Drain timeout: GROUT_SHORT is set and the stroke becomes ENDED (R39). -/
def Ev.judgeDrainTimer (e : Ev) : Ev :=
  e.when e.drainDue fun e => (e.modStrokeFlags fun f => { f with groutShort := true }).endStroke

/-! ## The move to DRAINING and an abort (R36, R41) -/

/-- The open slice closes as partial if it has any length (R36 step 2, R41 step 2). -/
def Ev.closePartial (e : Ev) : Ev :=
  match e.stc.slice with
  | none => e
  | some k => e.when (decide (k.start < e.stc.highWater)) fun e =>
      e.closeSlice k.index (e.stc.highWater - k.start) e.stc.sliceTimer true

/-- After the final slice no slice is open, and the cut-this-slice mark stays at no, also when the final slice had no
length and none was closed (R36 step 2, R97). With none closed nothing sets the slice pulse counts to 0 (R86), and they stand as
they were until the next STROKE_OPEN (DESIGN CHOICE, log 28). -/
def Ev.closeFinal (e : Ev) : Ev :=
  (e.closePartial.modStc fun c => { c with slice := none }).modRgv fun g => { g with cutMark := false }

/-- The move to DRAINING (R36). -/
def Ev.startDrain (e : Ev) : Ev :=
  let e := e.closeFinal
  let e := e.modStc fun c => { c with phase := .draining, drainTimer := Timer.start }
  (e.raise (.stroke .draining e.strokeNumber)).judgeDrain

/-- STROKE_ABORT accepted (R41). -/
def Ev.abort (e : Ev) : Ev :=
  let e := e.modStrokeFlags fun f => { f with incompleteStroke := true }
  (e.when e.stc.phase.sliceOpen Ev.closeFinal).endStroke

/-! ## Travel (R31 to R33, R37) -/

/-- A quadrature step: +1 forward, −1 backward, none when both phases or neither change (R31). -/
def quadStep (oldP oldQ newP newQ : Bool) : Option Bool :=
  if oldP ≠ newP ∧ oldQ = newQ then some (newP != oldQ)
  else if oldP = newP ∧ oldQ ≠ newQ then some (newQ == oldP)
  else none

/-- The rollback notice after a change of p: raised once above 50 counts, armed again at 10 or less (R32). -/
def Ev.judgeRollback (e : Ev) (backward : Bool) : Ev :=
  let roll := e.stc.highWater - e.stc.position
  if backward && e.stc.rollbackArmed && decide (Config.rollbackRaise < roll) then
    (e.modStc fun c => { c with rollbackArmed := false }).raise (.rollback roll e.stc.position)
  else if !e.stc.rollbackArmed && decide (roll ≤ Config.rollbackArm) then
    e.modStc fun c => { c with rollbackArmed := true }
  else e

/-- A line whose active entry at h differs from the one a count before: its blockage is judged (R131). -/
def State.entryMoved (s : State) (i : LineIndex) : Bool :=
  s.entryAt i s.strokeMm ≠ s.entryAt i ((s.stc.highWater - 1) / 10)

/-- The slice boundary: slice k closes full when h reaches k × S × 10, and slice k + 1 opens (R33). -/
def Ev.crossBoundary (e : Ev) : Ev :=
  match e.stc.slice with
  | none => e
  | some k =>
    let length := e.geo.sliceLength * 10
    if e.stc.phase.sliceOpen && e.stc.highWater = k.index * length then
      (e.closeSlice k.index length e.stc.sliceTimer false).modStc fun c =>
        { c with slice := some ⟨k.index + 1, c.highWater⟩, sliceTimer := 0 }
    else e

/-- End-at-target: the stroke moves to DRAINING when h first reaches the target (R37). -/
def Ev.judgeTarget (e : Ev) : Ev :=
  match e.rst.stroke with
  | none => e
  | some r =>
    e.when (r.endAtTarget && e.stc.phase.sliceOpen && (r.target.map fun t => t * 10) == some e.stc.highWater)
      Ev.startDrain

/-- What follows a rise of h: the volumes, the blockage of lines whose entry moved, the drain, the slice boundary, the
end-at-target (R31, R33, R37, R131). -/
def Ev.highRose (e : Ev) : Ev :=
  let e := e.passHigh
  let e := e.each allLines fun e i => e.when (e.entryMoved i) fun e => e.judgeBlockage i
  e.judgeDrain.crossBoundary.judgeTarget

/-- One counted step of an open stroke (R31). -/
def Ev.travel (e : Ev) (forward : Bool) : Ev :=
  if !e.stc.phase.isOpen then e
  else if forward then
    if 65535 ≤ e.stc.position then e
    else
      let p := e.stc.position + 1
      let rises := decide (e.stc.highWater < p)
      let h := max e.stc.highWater p
      let e := (e.modStc fun c => { c with position := p, highWater := h }).modResult fun r => r.atTravel p h
      (e.judgeRollback false).when rises Ev.highRose
  else if e.stc.position = 0 then e
  else
    let p := e.stc.position - 1
    let e := (e.modStc fun c => { c with position := p }).modResult fun r => r.atTravel p e.stc.highWater
    e.judgeRollback true

/-! ## STROKE_OPEN (R18, R23) -/

/-- The stroke result with every field zero (R5). -/
def StrokeResult.zero : StrokeResult :=
  ⟨0, 0, 0, 0, 0, 0, 0, Vector.replicate 6 0, 0, Vector.replicate 6 0, 0, 0⟩

/-- Seven clear flags (R6). -/
def RingFlags.clear : RingFlags := ⟨false, false, false, false, false, false, false⟩

/-- The PLAN record as it stands in STROKE after the open (R18). -/
def PlanRing.opened (p : PlanRing) : StrokeRing :=
  { toRingPlan := p.toRingPlan, chains := some p.chains, result := StrokeResult.zero, flags := RingFlags.clear }

/-- The new PLAN record: a copy one number higher, its four marks CARRIED (R18). -/
def PlanRing.next (p : PlanRing) : PlanRing :=
  { p with number := p.number + 1, marks := ⟨.carried, .carried, .carried, .carried⟩ }

/-- The PLAN record is valid for an open: a piece plan, a target, and a number not above 65,534 (R18). -/
def PlanRing.valid (p : PlanRing) : Bool := p.pieces.isSome && p.target.isSome && decide (p.number ≤ 65534)

/-- The PLAN record a STROKE_OPEN would take, by the four conditions of R18. -/
def State.openable (s : State) : Option PlanRing :=
  if s.configured && s.rst.stroke.isNone then s.rst.plan.filter PlanRing.valid else none

/-- The store's two moves at an open (R18). -/
def Ev.openStore (e : Ev) (p : PlanRing) : Ev :=
  (e.modRst fun t =>
    { t with stroke := some p.opened, plan := some p.next, free := t.free - chainCount p.chains }).raise
      (.stroke .opened p.number)

/-- BAL at an open: N takes the idle count, every other count and the snapshot become 0 (R81, R82, R86). -/
def Balance.atOpen (b : Balance) : Balance :=
  { b with screw := b.idle, idle := 0, strokePulses := Vector.replicate 6 0, slicePulses := Vector.replicate 6 0,
           lastHigh := 0, snapshot := Snapshot.zero }

/-- STROKE_OPEN accepted: steps 1 to 4 of R23. The state is set from the hold-cause set when the event settles. -/
def Ev.openStroke (e : Ev) (p : PlanRing) : Ev :=
  let e := e.openStore p
  let e := e.modStc fun c =>
    { c with phase := .advancing, position := 0, highWater := 0, rollbackArmed := true, slice := some ⟨1, 0⟩,
             sliceTimer := 0 }
  let e := e.openLines
  let e := (e.modBal Balance.atOpen).passScrew
  let e := e.modRgv fun g => { g with cutMark := false }
  let e := e.recomputeTrains p.face.fill
  let e := (e.modSpm fun m => { m with stale := Timer.start }).putHold .faceStale false
  e.shoesMoved

end Sys2Proof.Machine
end

