-- ==== Sys2Proof/WellFormed.lean ====
section
/-! DEFINITION. Which commands can reach the part at all: the frame rules of R151 and R152. -/

namespace Sys2Proof

/-- A valid frame's body is 0..56 bytes (R151). -/
def bodyFits (body : List Byte) : Bool := body.length ≤ maxBody

/-- A command the part can be given: a body that a frame can carry, an unknown code where the row says the code is
unknown, a wrong CRC byte where the row says it is wrong, a length byte above 56 where the row says so. -/
def Instr.wellFormed : Instr → Bool
  | .takeNotice _ b | .read _ b | .linkClear _ b | .setLimits _ b => bodyFits b
  | .configure _ b | .planStroke _ b | .strokeOpen _ b | .strokeEnd _ b => bodyFits b
  | .strokeAbort _ b | .hold _ b | .resume _ b | .shoeReset _ b => bodyFits b
  | .planPieces _ b | .claim _ b | .withdraw _ b | .claimDone _ b | .cancel _ b => bodyFits b
  | .planGroutSet _ b | .planGroutDrop _ b | .planGroutClear _ b => bodyFits b
  | .linePressure _ b | .lineClear _ b => bodyFits b
  | .planFace _ b | .facePressure _ b | .trainIn _ b | .trainDepart _ b => bodyFits b
  | .unknownRequest _ code b => bodyFits b && !inCatalogue code
  | .frameError _ code b crc => bodyFits b && crc != crc8 (frameBytes code b)
  | .frameLengthError _ _ length => maxBody < length.toNat
  | .selectRelease _ | .selectAssert _ | .estopAssert | .estopRelease | .travelStep _ _ => true
  | .screwPulse | .pumpPulse _ | .seatedAsserts _ | .seatedDrops _ | .retractedLimitChange _ _ => true
  | .powerOn | .resetNAssert | .resetEnd | .clockFallback | .clockRestored | .timebaseTick => true
  | .moveTimeout _ | .drainTimeout | .stalenessTimeout | .noPulseTimeout _ => true
  | .backoffExpiry _ | .probeWindowExpiry _ | .silenceTimeout _ | .checkTimerExpiry _ => true
  | .drainCompletion | .claimGrant | .strokeToBuild => true

end Sys2Proof
end

