-- ==== Sys2Proof/Machine/Silence.lean ====
section
/-! DEFINITION. A link's silence sequence, its lapse and the end of a lapse (R147, R148), and the frame of every request:
what a valid frame does before its request is judged, the order of judgement and the response (R153, R154). -/

namespace Sys2Proof.Machine

/-! ## The silence sequence (R147, R148) -/

/-- A link's silence limit, T_silent of its own group (R146). -/
def State.silentLimit (s : State) : Link → Nat
  | .advance => s.lim.a.silent
  | .erector => s.lim.e.silent
  | .grout => s.lim.g.silent
  | .spoil => s.lim.s.silent

/-- The silence state after a valid frame, in any phase: WATCHING, no check, the silence timer at 0 and running if the
link is armed (R147, R148 step 1). The timer of a link that is not armed is set to 0 too and goes on standing, since R146 and
R164 infer from a valid frame alone that it is at 0 (DEDUCED, log 9). -/
def Silence.spoken (c : Silence) : Silence where
  armed := c.armed
  phase := .watching
  checks := 0
  silenceTimer := if c.armed then Timer.start else { c.silenceTimer with elapsed := 0 }
  checkTimer := c.checkTimer.stop

/-- Put or take the member a link's lapse keeps in the hold-cause set; Link S keeps none (R148). -/
def Ev.putLapse (e : Ev) (l : Link) (b : Bool) : Ev :=
  match lapseCause l with
  | none => e
  | some c => e.putHold c b

/-- The end of a lapse, steps 2 and 3 of R148; the drain is judged once, after every window that expires (log 25). -/
def Ev.endLapse (e : Ev) (l : Link) : Ev :=
  let e := e.putLapse l false
  let e := e.when (l = .grout) fun e => e.unlapseLines.judgeDrain
  e.raise (.lapse l false)

/-- The effect of a valid frame on its link's silence state, before the request is acted on (R147, R148, R153 step 1). -/
def Ev.validFrame (e : Ev) (l : Link) : Ev :=
  let wasLapsed := (e.lif.get l).silence.lapsed
  (e.modSilence l Silence.spoken).when wasLapsed fun e => e.endLapse l

/-- The effects of a lapse on the link's role (R148, R76, R126, R134). -/
def Ev.lapseRole (e : Ev) (l : Link) : Ev :=
  match l with
  | .advance | .spoil => e
  | .erector => e.dropWaiting
  | .grout => e.lapseLines

/-- A link lapses (R147 step 3, R148). -/
def Ev.lapse (e : Ev) (l : Link) : Ev :=
  let e := e.modSilence l fun c => { c with phase := .lapsed, checks := 0, checkTimer := c.checkTimer.stop }
  let e := (e.raise (.lapse l true)).putLapse l true
  e.lapseRole l

/-- The silence timer of a watched link has reached T_silent (R147 step 1). -/
def State.silenceDue (s : State) (l : Link) : Bool :=
  (s.lif.get l).silence.phase = .watching && (s.lif.get l).silence.silenceTimer.reached (s.silentLimit l)

/-- WATCHING becomes CHECKING, with the first check (R147 step 1). -/
def Ev.firstCheck (e : Ev) (l : Link) : Ev :=
  (e.modSilence l fun c =>
    { c with phase := .checking, checks := 1, silenceTimer := c.silenceTimer.stop, checkTimer := Timer.start }).raise
      (.silenceCheck l 1 (e.silentLimit l))

/-- The silence timer is judged. -/
def Ev.judgeSilence (e : Ev) (l : Link) : Ev := e.when (e.silenceDue l) fun e => e.firstCheck l

/-- The check timer of a checked link has reached 1,000 ms (R147). -/
def State.checkDue (s : State) (l : Link) : Bool :=
  (s.lif.get l).silence.phase = .checking && (s.lif.get l).silence.checkTimer.reached Config.checkPeriod

/-- The next check, or after the third the lapse (R147 steps 2 and 3). -/
def Ev.nextCheck (e : Ev) (l : Link) : Ev :=
  let n := (e.lif.get l).silence.checks
  if n < 3 then
    (e.modSilence l fun c => { c with checks := n + 1, checkTimer := Timer.start }).raise
      (.silenceCheck l (n + 1) (e.silentLimit l))
  else e.lapse l

/-- The check timer is judged. -/
def Ev.judgeCheck (e : Ev) (l : Link) : Ev := e.when (e.checkDue l) fun e => e.nextCheck l

/-! ## The frame of a request (R150 to R154) -/

/-- A valid frame's bytes, its CRC byte last (R151). -/
def frameOf (code : Byte) (body : List Byte) : List Byte := frameBytes code body ++ [crc8 (frameBytes code body)]

/-- Steps 3 to 6 of R153: role, configuration, body length, owner. -/
def Ev.judgeRequest (e : Ev) (q : Request) (l : Link) (body : List Byte) (own : Ev → Ev × Reply) : Ev × Reply :=
  if !q.allowedOn l then (e, .refuse .notPermitted)
  else if !e.configured && !q.early then (e, .refuse .wrongState)
  else if !q.lengthOK l body.length then (e, .refuse .badValue)
  else own e

/-- The event of a valid frame: step 1 of R153, then the judgement, then the state the event leaves, with its
response. -/
def State.framed (s : State) (l : Link) (frame : List Byte) (judge : Ev → Ev × Reply) : State :=
  let x := judge ((Ev.begin s).validFrame l)
  x.1.close.respond l frame x.2

/-- What the part answers. -/
abbrev Answer := Host.Outcome State Fault Refusal

/-- A request command: the whole valid frame in one event. A body no frame can carry is no command (log 6); a frame that
the link interface does not take (held in reset, or the select period's one transaction already made) changes nothing
(log 3). -/
def request (q : Request) (l : Link) (body : List Byte) (own : Ev → Ev × Reply) (s : State) : Answer :=
  if !bodyFits body then .refused .illFormed
  else if !s.receives l then .next s
  else .next (s.framed l (frameOf q.code body) fun e => e.judgeRequest q l body own)

end Sys2Proof.Machine
end

