-- ==== Sys2Proof/Machine/Links.lean ====
section
/-! DEFINITION. The commands of every link that concern the link itself: notices (R143, R145), frames that are no request
of the catalogue (R152, R153), and the select line (R150, R152). -/

namespace Sys2Proof.Machine

/-! ## The bytes of a notice record (R143, R155, log 15) -/

/-- A notice's subject: a link or a line is one byte, a shoe or a claim a number. -/
def Notice.subjectBytes : Notice → List Byte
  | .lapse l .. => 1#8 :: num1 (linkOrdinal l)
  | .silenceCheck .. => [0#8]
  | .shoeFault i .. => 1#8 :: num2 i.val
  | .claim c .. => 1#8 :: num2 c.val
  | .line i .. => 1#8 :: num1 i.val
  | .pumpDead i .. => 1#8 :: num1 i.val
  | .restart .. | .estop .. | .balance .. | .hold .. | .stroke .. | .ringClosed .. | .train .. | .overExcavation ..
  | .underRemoval .. | .faceBand .. | .rateCut .. | .rateExceeded .. | .rollback .. | .groutShortfall ..
  | .trainUrgent .. => [0#8]

/-- A set of shoes as a list: the number of entries, then each shoe's number (DESIGN CHOICE, log 15). -/
def shoeList (shoes : List ShoeIndex) : List Byte := num1 shoes.length ++ shoes.flatMap fun i => num2 i.val

/-- The data of a CLAIM notice: the datum, what R74 gives with it, the claim's kind and piece. COMPLETED carries the piece
once, before the travel, and the kind last: R69 and R74 name the piece with the datum and again with every datum. The travel is
a field that may be absent, and absent for a WITHDRAW claim (DESIGN CHOICE, log 15). -/
def ClaimNews.bytes (kind : ClaimKind) (piece : Nat) : ClaimNews → List Byte
  | .granted => num1 0 ++ num1 kind.ordinal ++ num2 piece
  | .clear => num1 1 ++ num1 kind.ordinal ++ num2 piece
  | .faulted shoe => num1 2 ++ num2 shoe.val ++ num1 kind.ordinal ++ num2 piece
  | .completed travel => num1 3 ++ num2 piece ++ optional num2 travel ++ num1 kind.ordinal
  | .returned faulty => num1 4 ++ shoeList faulty ++ num1 kind.ordinal ++ num2 piece
  | .dropped => num1 5 ++ num1 kind.ordinal ++ num2 piece

/-- The data of a LINE notice: BLOCKED, OPEN or FAILED, and what R131 or R133 gives with it. -/
def LineNews.bytes : LineNews → List Byte
  | .blocked pressure ceiling debt backoff => num1 0 ++ num2 pressure ++ num2 ceiling ++ debt2 debt ++ num2 backoff
  | .blockedAgain probes backoff => num1 0 ++ num2 probes ++ num2 backoff
  | .opened probes => num1 1 ++ num2 probes
  | .failed debt => num1 2 ++ debt2 debt

/-- A notice's data: the fields its raising rule names, in the order named. -/
def Notice.dataBytes : Notice → List Byte
  | .restart cause => num1 cause.ordinal
  | .estop asserted => choice asserted
  | .lapse _ begun => num1 (if begun then 0 else 1)
  | .balance c r i l t q m => num2 c ++ num2 r ++ num2 i ++ num2 l ++ num2 t ++ num2 q ++ num2 m
  | .shoeFault _ reason left => num1 reason.ordinal ++ num1 left.ordinal
  | .hold set => set.bytes
  | .stroke change ring => num1 change.ordinal ++ num2 ring
  | .ringClosed ring => num2 ring
  | .claim _ news kind piece => news.bytes kind piece
  | .train number fill capacity standby => num2 number ++ num1 0 ++ num4 fill ++ num4 capacity ++ choice standby
  | .silenceCheck _ number limit => num2 number ++ num2 limit
  | .overExcavation ratio records ring slice => num2 ratio ++ num2 records ++ num2 ring ++ num2 slice
  | .underRemoval ratio records ring slice => num2 ratio ++ num2 records ++ num2 ring ++ num2 slice
  | .faceBand value low high source ring sliceOpen =>
    num2 value ++ num2 low ++ num2 high ++ num1 source.ordinal ++ num2 ring ++ choice sliceOpen
  | .rateCut cause before ceiling threshold ring slice =>
    num1 cause.ordinal ++ num2 before ++ num2 ceiling ++ num2 threshold ++ num2 ring ++ num2 slice
  | .rateExceeded rate ceiling margin count ring slice =>
    num4 rate ++ num2 ceiling ++ num2 margin ++ num2 count ++ num2 ring ++ num2 slice
  | .rollback back position => num2 back ++ num2 position
  | .groutShortfall ratio records ring slice => num2 ratio ++ num2 records ++ num2 ring ++ num2 slice
  | .trainUrgent number fillPulses capacityPulses fill capacity =>
    num2 number ++ num4 fillPulses ++ num4 capacityPulses ++ num4 fill ++ num4 capacity
  | .line _ news => news.bytes
  | .pumpDead _ state debt reason => num1 state.ordinal ++ debt2 debt ++ num1 reason.ordinal

/-- The body of a TAKE_NOTICE response: the record, or the kind none (R143). -/
def takenBytes : Option NoticeRecord → List Byte
  | none => [0#8]
  | some r =>
    1#8 :: (num1 r.notice.kind ++ r.notice.subjectBytes ++ num2 r.notice.noticeClass ++ r.notice.dataBytes
      ++ num4 r.firstRaised ++ num4 r.lastRaised ++ num2 r.repeats)

/-- The record TAKE_NOTICE takes: the highest class present, and within it the earliest in the list (R143). -/
def pickNotice (ns : List NoticeRecord) : Option NoticeRecord :=
  [1, 2, 3].findSome? fun k => ns.find? fun r => r.notice.noticeClass = k

/-- Update one notice list. -/
def Ev.modList (e : Ev) (l : Link) (f : List NoticeRecord → List NoticeRecord) : Ev :=
  e.modNtu fun p => p.set l (f (p.get l))

/-! ## TAKE_NOTICE and LINK_CLEAR -/

/-- The owner's part of TAKE_NOTICE: what the end of a lapse has raised stands in the list first (R143, R148). -/
def Ev.takeNotice (e : Ev) (l : Link) : Ev × Reply :=
  let e := e.settle
  match pickNotice (e.ntu.get l) with
  | none => (e, ⟨.ok, takenBytes none⟩)
  | some r => (e.modList l fun ns => ns.erase r, ⟨.ok, takenBytes (some r)⟩)

/-- TAKE_NOTICE (R143). -/
def execTakeNotice (l : Link) (body : List Byte) (s : State) : Answer :=
  request .takeNotice l body (fun e => e.takeNotice l) s

/-- The owner's part of LINK_CLEAR: every record of the sending link's list goes, the end of its own lapse among them
(R145). -/
def Ev.linkClear (e : Ev) (l : Link) : Ev × Reply := (e.settle.modList l fun _ => [], .ok)

/-- LINK_CLEAR (R145). -/
def execLinkClear (l : Link) (body : List Byte) (s : State) : Answer :=
  request .linkClear l body (fun e => e.linkClear l) s

/-! ## Frames that are no request of the catalogue -/

/-- A valid frame whose code is not in the catalogue: its silence effect, and UNKNOWN (R153 steps 1 and 2). -/
def execUnknownRequest (l : Link) (code : Byte) (body : List Byte) (s : State) : Answer :=
  if !bodyFits body || inCatalogue code then .refused .illFormed
  else if !s.receives l then .next s
  else .next (s.framed l (frameOf code body) fun e => (e, .refuse .unknown))

/-- A frame whose CRC byte is wrong: not acted on, the silence sequence untouched, answered FRAME_ERROR (R152). -/
def execFrameError (l : Link) (code : Byte) (body : List Byte) (crc : Byte) (s : State) : Answer :=
  if !bodyFits body || crc == crc8 (frameBytes code body) then .refused .illFormed
  else if !s.receives l then .next s
  else .next (s.respond l (frameBytes code body ++ [crc]) (.refuse .frameError))

/-- A length byte above 56: judged at byte 1, no body is taken, answered FRAME_ERROR (R152). -/
def execFrameLengthError (l : Link) (code : Byte) (length : Byte) (s : State) : Answer :=
  if length.toNat ≤ maxBody then .refused .illFormed
  else if !s.receives l then .next s
  else .next (s.respond l [code, length] (.refuse .frameError))

/-! ## The select line -/

/-- The link interface when its select asserts: RECEIVING with an empty frame assembler (R150). -/
def LinkInterface.selected (c : LinkInterface) : LinkInterface :=
  if c.phase = .released then { c with phase := .receiving, assembler := [], response := none } else c

/-- The link interface when its select is released: the period ends, and what was not sent or not whole is dropped
(R150, R152). -/
def LinkInterface.deselected (c : LinkInterface) : LinkInterface :=
  { c with phase := .released, assembler := [], response := none }

/-- SELECT_ASSERT (R150). While the part is held in reset it is not followed: a select that is still asserted when the reset
ends starts no period, and the link stands released until the next SELECT_ASSERT (DESIGN CHOICE, log 8). -/
def execSelectAssert (l : Link) (s : State) : Answer := .next (s.event fun e => e.modLink l LinkInterface.selected)

/-- SELECT_RELEASE (R152). -/
def execSelectRelease (l : Link) (s : State) : Answer := .next (s.event fun e => e.modLink l LinkInterface.deselected)

end Sys2Proof.Machine
end

