-- ==== Sys2Proof/Machine/Claims.lean ====
section
/-! DEFINITION. The commands of the build arbiter: CLAIM, WITHDRAW, CLAIM_DONE, CANCEL and the grant (R59 to R71). -/

namespace Sys2Proof.Machine

/-- The id issued at the next acceptance: the first, counting upward from the counter and wrapping from 7 to 0, that no
claim in the queue holds (R60). -/
def BuildArbiter.freeId (b : BuildArbiter) : ClaimId :=
  (((List.range 8).map fun k => b.counter + Fin.ofNat 8 k).find? fun id => b.queue.all fun c => c.id ≠ id).getD b.counter

/-- A claim accepted at the tail of the queue in WAITING, and the counter one past its id (R60, R61, R62). -/
def BuildArbiter.accept (b : BuildArbiter) (kind : ClaimKind) (p : Piece) : BuildArbiter where
  queue := b.queue ++ [⟨b.freeId, kind, p.number, p.first, p.span, .waiting⟩]
  counter := b.freeId + 1

/-- The place of the state a request answers for a claim: its state while it is in the queue, `gone` once it is not. -/
def BuildArbiter.stateByte (b : BuildArbiter) (id : ClaimId) (gone : Nat) : List Byte :=
  num1 ((b.find id).map (fun c => c.state.ordinal) |>.getD gone)

/-- The place of COMPLETE, named after the six states of R59 (R67, R155). -/
def stateComplete : Nat := 6

/-- The place of REMOVED, named after COMPLETE (R71, R155). -/
def stateRemoved : Nat := 7

/-- A claim accepted: the grant is evaluated in the same event, and the answer gives the id, the shoe set and the state
(R61, R62, R64). The shoe set is sent as a counted list of shoe numbers in span order, where R155 could also be read as one
two-choice byte for each of the sixteen shoes (DESIGN CHOICE, log 15). -/
def Ev.acceptClaim (e : Ev) (kind : ClaimKind) (p : Piece) : Ev × Reply :=
  let id := e.bla.freeId
  let e := (e.modBla fun b => b.accept kind p).shoesMoved
  (e, ⟨.accepted, num2 id.val ++ shoeList (spanShoes p.first p.span) ++ e.bla.stateByte id stateRemoved⟩)

/-- The planned piece of a number, in the BUILD ring. -/
def BuiltRing.planned (b : BuiltRing) (piece : Nat) : Option Piece :=
  b.pieces.bind fun ps => ps.find? fun p => p.number = piece

/-- The number of planned pieces, N. -/
def BuiltRing.count (b : BuiltRing) : Nat := (b.pieces.map List.length).getD 0

/-- A piece is on the placement stack. -/
def BuiltRing.onStack (b : BuiltRing) (piece : Nat) : Bool := b.stack.any fun t => t.piece = piece

/-- Every planned piece but the key is on the stack. -/
def BuiltRing.othersPlaced (b : BuiltRing) : Bool :=
  (b.pieces.getD []).all fun p => p.number = b.count || b.onStack p.number

/-- The conditions of R61 on a planned piece that refuse a CLAIM with WRONG_STATE. -/
def Ev.claimBlocked (e : Ev) (b : BuiltRing) (piece : Nat) : Bool :=
  (e.bla.queue.any fun c => c.kind = .withdraw) || b.onStack piece || (e.bla.queue.any fun c => c.piece = piece)
    || (piece = b.count && (!b.othersPlaced || !e.bla.queue.isEmpty))

/-- The owner's part of CLAIM, its conditions in the order of R61. -/
def Ev.claimPiece (e : Ev) (body : List Byte) : Ev × Reply :=
  match e.rst.build with
  | none => (e, .refuse .wrongState)
  | some b =>
    match b.planned (fieldAt body 0 2) with
    | none => (e, .refuse .badValue)
    | some p =>
      if e.claimBlocked b p.number then (e, .refuse .wrongState)
      else if Config.queueClaims ≤ e.bla.queue.length then (e, .refuse .full)
      else e.acceptClaim .place p

/-- CLAIM (R61). -/
def execClaim (l : Link) (body : List Byte) (s : State) : Answer :=
  request .claim l body (fun e => e.claimPiece body) s

/-- The piece WITHDRAW may take: the top of the stack, with the queue empty (R62). -/
def Ev.withdrawable (e : Ev) (piece : Nat) : Option Piece :=
  match e.rst.build with
  | none => none
  | some b =>
    if e.bla.queue.isEmpty && (b.stack.getLast?.map fun t => t.piece) == some piece then b.planned piece else none

/-- The owner's part of WITHDRAW (R62). -/
def Ev.withdrawPiece (e : Ev) (body : List Byte) : Ev × Reply :=
  match e.withdrawable (fieldAt body 0 2) with
  | none => (e, .refuse .wrongState)
  | some p => e.acceptClaim .withdraw p

/-- WITHDRAW (R62). -/
def execWithdraw (l : Link) (body : List Byte) (s : State) : Answer :=
  request .withdraw l body (fun e => e.withdrawPiece body) s

/-- A claim id read from a two-byte field: none above 7. -/
def claimAt (body : List Byte) : Option ClaimId :=
  if h : fieldAt body 0 2 < 8 then some ⟨fieldAt body 0 2, h⟩ else none

/-- The extend commands for a claim's shoes; only those in RETRACTING and CLEAR take one (R47). -/
def Ev.extendShoes (e : Ev) (c : Claim) : Ev := e.each c.shoes Ev.extendCommand

/-- A CLEAR claim is done: a WITHDRAW pops the top of the stack, the claim goes to CLAMPING, its shoes extend
(R67, R68). -/
def Ev.clampClaim (e : Ev) (c : Claim) : Ev :=
  let e := e.when (c.kind = .withdraw) fun e => e.modBuildRing fun b => { b with stack := b.stack.dropLast }
  let e := e.modClaim c.id fun c => { c with state := .clamping }
  (e.extendShoes c).shoesMoved

/-- The owner's part of CLAIM_DONE (R67, R68). It answers the claim's state for both kinds, where R67 gives that body beside a
PLACE claim and R68 names none for a WITHDRAW claim (DESIGN CHOICE, log 15). -/
def Ev.claimDone (e : Ev) (body : List Byte) : Ev × Reply :=
  match claimAt body with
  | none => (e, .refuse .badValue)
  | some id =>
    match e.bla.find id with
    | none => (e, .refuse .wrongState)
    | some c =>
      if c.state = .clear then
        let e := e.clampClaim c
        (e, ⟨.ok, e.bla.stateByte id stateComplete⟩)
      else (e, .refuse .wrongState)

/-- CLAIM_DONE (R67, R68). -/
def execClaimDone (l : Link) (body : List Byte) (s : State) : Answer :=
  request .claimDone l body (fun e => e.claimDone body) s

/-- A claim with shoes away is given up: it goes to RETURNING and its shoes extend (R71). -/
def Ev.returnClaim (e : Ev) (c : Claim) : Ev :=
  ((e.modClaim c.id fun c => { c with state := .returning }).extendShoes c).shoesMoved

/-- A WAITING claim is given up: it leaves the queue at once (R71, R73). -/
def Ev.dropClaim (e : Ev) (c : Claim) : Ev := (e.removeClaim c).judgeRingClose.shoesMoved

/-- CANCEL by the claim's state; none for the two states that refuse it (R71). -/
def Ev.cancelEffect (e : Ev) (c : Claim) : Option Ev :=
  match c.state with
  | .waiting => some (e.dropClaim c)
  | .retracting | .clear | .faulted => some (e.returnClaim c)
  | .clamping | .returning => none

/-- The owner's part of CANCEL (R71). -/
def Ev.cancelClaim (e : Ev) (body : List Byte) : Ev × Reply :=
  match claimAt body with
  | none => (e, .refuse .badValue)
  | some id =>
    match (e.bla.find id).bind e.cancelEffect with
    | none => (e, .refuse .wrongState)
    | some e => (e, ⟨.ok, e.bla.stateByte id stateRemoved⟩)

/-- CANCEL (R71). -/
def execCancel (l : Link) (body : List Byte) (s : State) : Answer :=
  request .cancel l body (fun e => e.cancelClaim body) s

/-- CLAIM_GRANT: the grant condition evaluated once more; void when the oldest WAITING claim does not meet it
(R63, R64, R65). -/
def execClaimGrant (s : State) : Answer := .next (s.event fun e => e.grants.judgeBalance)

end Sys2Proof.Machine
end

