-- ==== Sys2Proof/Machine/Grout.lean ====
section
/-! DEFINITION. The commands of the grout scheduler: pump pulses (R127, R128, R133), LINE_PRESSURE (R130), LINE_CLEAR
(R135), and the expiry of a line's timers (R131 to R133). -/

namespace Sys2Proof.Machine

/-! ## Pump pulses -/

/-- A counted pulse recovers a PROBING line and restarts an OPEN line's no-pulse timer (R127 step 3, R133). A valve that the
pulse itself closes leaves the no-pulse timer stopped at 0 (DESIGN CHOICE, log 9). -/
def LineRecord.pulsed (r : LineRecord) (displacement backoff : Nat) : LineRecord :=
  let r := { r with debt := satDebt (r.debt - displacement) }
  match r.state with
  | .opened => { r with noPulse := Timer.start }
  | .probing =>
    { r with state := .opened, window := r.window.stop, backoff := backoff, probes := 0, noPulse := Timer.start }
  | .closed | .blocked | .failed => r

/-- A counted pulse (R127). -/
def Ev.countPump (e : Ev) (i : LineIndex) : Ev :=
  let probing := e.grs[i].state = .probing
  let probes := e.grs[i].probes
  let e := e.modLine i fun r => r.pulsed e.geo.displacement[i] e.lim.g.backoff
  let e := e.passPump i
  let e := e.when probing fun e => e.raise (.line i (.opened probes))
  ((e.judgeValve i).judgeDebt).judgeDrain

/-- Why a valve is closed: the first reason that holds, in the order of R128. -/
def State.deadReason (s : State) (i : LineIndex) : DeadReason :=
  if !s.stc.phase.isOpen then .noStroke
  else if !(s.grs[i].state = .opened || s.grs[i].state = .probing) then .lineState
  else if s.grs[i].debt ≤ 0 then .noDebt
  else if s.pins.estop then .estop
  else .groutLapse

/-- A dead pulse: PUMP_DEAD, and nothing else (R128). -/
def Ev.deadPump (e : Ev) (i : LineIndex) : Ev :=
  e.raise (.pumpDead i e.grs[i].state e.grs[i].debt (e.deadReason i))

/-- PUMP_PULSE: a rising edge of the line's pump input (R127, R128). -/
def execPumpPulse (i : LineIndex) (s : State) : Answer :=
  .next (s.event fun e => if e.grs[i].valve then e.countPump i else e.deadPump i)

/-! ## LINE_PRESSURE (R130) -/

/-- The pairs of LINE_PRESSURE with their lines checked: every line is L0..L5 and none appears twice. -/
def checkedPairs (body : List Byte) : Option (List (LineIndex × Nat)) :=
  let pairs := pressureBody body
  if (pairs.map Prod.fst).Nodup then
    pairs.mapM fun p => if h : p.1 < 6 then some (⟨p.1, h⟩, p.2) else none
  else none

/-- Store one reported pressure, saturated at 2,000. -/
def Ev.storePressure (e : Ev) (p : LineIndex × Nat) : Ev :=
  e.modLine p.1 fun r => { r with pressure := some (sat 2000 p.2) }

/-- What LINE_PRESSURE answers: for each line named, the value as stored and the line's state. -/
def State.pressureBytes (s : State) (pairs : List (LineIndex × Nat)) : List Byte :=
  num1 pairs.length ++ pairs.flatMap fun p => num2 (sat 2000 p.2) ++ num1 s.grs[p.1].state.ordinal

/-- The owner's part of LINE_PRESSURE: every value stored, then every line named judged for blockage (R130, R131). -/
def Ev.linePressure (e : Ev) (body : List Byte) : Ev × Reply :=
  match checkedPairs body with
  | none => (e, .refuse .badValue)
  | some pairs =>
    let e := e.each pairs Ev.storePressure
    let e := (e.each pairs fun e p => e.judgeBlockage p.1).judgeDrain
    (e, ⟨.ok, e.pressureBytes pairs⟩)

/-- LINE_PRESSURE (R130). -/
def execLinePressure (l : Link) (body : List Byte) (s : State) : Answer :=
  request .linePressure l body (fun e => e.linePressure body) s

/-! ## LINE_CLEAR (R135) -/

/-- A FAILED line brought back: to OPEN while a stroke is open, to CLOSED otherwise. -/
def LineRecord.cleared (r : LineRecord) (isOpen : Bool) (backoff : Nat) : LineRecord :=
  { r with state := if isOpen then .opened else .closed, backoff := backoff, probes := 0 }

/-- The owner's part of LINE_CLEAR (R135). -/
def Ev.lineClear (e : Ev) (body : List Byte) : Ev × Reply :=
  match lineAt body 0 with
  | none => (e, .refuse .badValue)
  | some i =>
    if e.grs[i].state = .failed then
      let e := e.modLine i fun r => r.cleared e.stc.phase.isOpen e.lim.g.backoff
      let e := (e.judgeValve i).judgeDebt.judgeDrain
      (e, ⟨.ok, num1 e.grs[i].state.ordinal ++ debt2 e.grs[i].debt⟩)
    else (e, .refuse .wrongState)

/-- LINE_CLEAR (R135). -/
def execLineClear (l : Link) (body : List Byte) (s : State) : Answer :=
  request .lineClear l body (fun e => e.lineClear body) s

/-! ## A line's timers -/

/-- NO_PULSE_TIMEOUT: void when the no-pulse timer is short of T_block, and when the line is not blocked (R131, log 5). -/
def execNoPulseTimeout (i : LineIndex) (s : State) : Answer :=
  .next (s.event fun e => (e.judgeBlockage i).judgeDrain)

/-- BACKOFF_EXPIRY: void when the backoff timer is short of the backoff (R132, log 5). -/
def execBackoffExpiry (i : LineIndex) (s : State) : Answer :=
  .next (s.event fun e => (e.judgeBackoff i).judgeDrain)

/-- PROBE_WINDOW_EXPIRY: void when the window is short of W_probe (R133, log 5). -/
def execProbeWindowExpiry (i : LineIndex) (s : State) : Answer :=
  .next (s.event fun e => (e.judgeWindow i).judgeDrain)

end Sys2Proof.Machine
end

