-- ==== Sys2Proof/Machine/Read.lean ====
section
/-! DEFINITION. READ: the field list of each selector, its cut into parts, the judgement of the request (R158, R159;
the field encodings of R155, log 15). -/

namespace Sys2Proof.Machine

/-! ## Ring slots (R159) -/

/-- A timer as a READ shows it: its state, and its elapsed time in a field of the given form. -/
def Timer.readFields (t : Timer) (num : Nat → List Byte) : List (List Byte) := [num1 t.run.ordinal, num t.elapsed]

/-- One piece: its number, first shoe and span. -/
def Piece.readFields (p : Piece) : List (List Byte) := [num2 p.number, num2 p.first.val, num2 p.span]

/-- A piece plan: N, then the pieces in piece-number order; or absent. -/
def readPieces : Option (List Piece) → List (List Byte)
  | none => [[0#8]]
  | some ps => [[1#8], num2 ps.length, num1 ps.length] ++ ps.flatMap Piece.readFields

/-- One grout entry: `from`, share and pressure ceiling (R12). -/
def GroutEntry.readFields (g : GroutEntry) : List (List Byte) := [num2 g.start, num2 g.share, num2 g.ceiling]

/-- Six grout chains from L0 to L5, each an ordered list; or absent. -/
def readChains : Option Chains → List (List Byte)
  | none => [[0#8]]
  | some v => [1#8] :: v.toList.flatMap fun chain => num1 chain.length :: chain.flatMap GroutEntry.readFields

/-- The PLAN section of a slot. -/
def RingPlan.readFields (r : RingPlan) (chains : Option Chains) : List (List Byte) :=
  [num1 r.marks.pieces.ordinal, num1 r.marks.stroke.ordinal, num1 r.marks.face.ordinal, num1 r.marks.grout.ordinal]
  ++ readPieces r.pieces
  ++ [optional num2 r.target, choice r.endAtTarget, num2 r.face.low, num2 r.face.high, num2 r.face.margin,
      num2 r.face.fill, num2 r.face.bulking]
  ++ readChains chains

/-- The stroke result in the order of R5. -/
def StrokeResult.readFields (r : StrokeResult) : List (List Byte) :=
  [num2 r.finalTravel, num2 r.highWater, num2 r.sliceCount, num4 r.excavated, num4 r.expected, num4 r.removed,
   num4 r.void]
  ++ r.grout.toList.map num4 ++ [num4 r.groutTotal] ++ r.shortfall.toList.map num2
  ++ [num4 r.timeAdvancing, num4 r.timeHeld]

/-- The seven flags in the order of R6. -/
def RingFlags.readFields (f : RingFlags) : List (List Byte) :=
  [choice f.incompleteStroke, choice f.groutShort, choice f.overExcavation, choice f.underRemoval,
   choice f.faceExcursion, choice f.shoeFault, choice f.overspeed]

/-- The STACK section: the stack count, then the stack bottom first (R77). -/
def readStack (stack : List StackEntry) : List (List Byte) :=
  [[1#8], num2 stack.length, num1 stack.length] ++ stack.flatMap fun t => [num2 t.piece, num2 t.travel]

/-- The four slots in the order of READ's argument. -/
inductive Slot where
  | plan | stroke | build | done
  deriving DecidableEq, Repr

/-- The three sections in the order of READ's argument. -/
inductive Section3 where
  | plan | result | stack
  deriving DecidableEq, Repr

/-- A section that the slot does not have. -/
def absentSection : List (List Byte) := [[0#8]]

/-- A section of the PLAN slot's record. -/
def PlanRing.readFields (p : PlanRing) : Section3 → List (List Byte)
  | .plan => p.toRingPlan.readFields (some p.chains)
  | .result | .stack => absentSection

/-- A section of the STROKE slot's record, the stroke state among its result (R159). -/
def StrokeRing.readFields (r : StrokeRing) (phase : StrokePhase) : Section3 → List (List Byte)
  | .plan => r.toRingPlan.readFields r.chains
  | .result => [[1#8], num1 phase.ordinal] ++ r.result.readFields ++ r.flags.readFields
  | .stack => absentSection

/-- A section of a record in BUILD or DONE. -/
def BuiltRing.readFields (b : BuiltRing) : Section3 → List (List Byte)
  | .plan => b.toRingPlan.readFields none
  | .result => [[1#8]] ++ b.result.readFields ++ b.flags.readFields
  | .stack => readStack b.stack

/-- A slot: whether it is occupied, its ring number, and the section asked for. -/
def readSlotWith (found : Option (Nat × List (List Byte))) : List (List Byte) :=
  match found with
  | none => [choice false]
  | some (number, fields) => [choice true, num2 number] ++ fields

/-- A READ of a ring slot (R159). -/
def State.readSlot (s : State) (slot : Slot) (sec : Section3) : List (List Byte) :=
  match slot with
  | .plan => readSlotWith (s.rst.plan.map fun p => (p.number, p.readFields sec))
  | .stroke => readSlotWith (s.rst.stroke.map fun r => (r.number, r.readFields s.stc.phase sec))
  | .build => readSlotWith (s.rst.build.map fun b => (b.number, b.readFields sec))
  | .done => readSlotWith (s.rst.done.map fun b => (b.number, b.readFields sec))

/-! ## The other selectors -/

/-- One shoe (R43). -/
def State.readShoe (s : State) (i : ShoeIndex) : List (List Byte) :=
  let r := s.sht[i]
  [num2 i.val, num1 (quadrant i).val, num1 r.state.ordinal, optional (fun why => num1 (FaultReason.ordinal why)) r.reason,
   optional (fun id : ClaimId => num2 id.val) r.owner]
  ++ r.timer.readFields num4
  ++ [num1 (s.drive i).ordinal, choice s.pins.seated[i], choice s.pins.retracted[i]]

/-- The shoes (R43): the sixteen records, the counts, the set in force and whether the counts meet it. -/
def State.readShoes (s : State) : List (List Byte) :=
  allShoes.flatMap s.readShoe
  ++ ([0, 1, 2, 3] : List (Fin 4)).map (fun q => num2 (quadCount s.sht [] q))
  ++ [num2 (totalCount s.sht []), num1 (if s.stc.phase.isOpen then 0 else 1), num2 s.quadMin, num2 s.totalMin,
      choice (countsMeet s.sht [] s.quadMin s.totalMin)]

/-- The place of a wait reason (R64). -/
def WaitReason.ordinal : WaitReason → Nat
  | .twoActive => 0 | .shoesNotBearing => 1 | .balance => 2

/-- One claim, with each shoe of its set and that shoe's state (R79), the set sent as a counted list (DESIGN CHOICE, log 15). -/
def State.readClaim (s : State) (c : Claim) : List (List Byte) :=
  [num2 c.id.val, num1 c.kind.ordinal, num2 c.piece, num2 c.first.val, num2 c.span, num1 c.state.ordinal,
   num1 c.shoes.length]
  ++ c.shoes.flatMap fun i => [num2 i.val, num1 s.sht[i].state.ordinal]

/-- The claims (R79). The wait reason NONE is sent as an absent field, not as a fourth place of the set (DESIGN CHOICE,
log 15). -/
def State.readClaims (s : State) : List (List Byte) :=
  [num2 s.bla.queue.length, num2 s.bla.counter.val,
   optional (fun w => num1 (WaitReason.ordinal w)) (s.bla.oldestWaiting.bind s.waitReason), num1 s.bla.queue.length]
  ++ s.bla.queue.flatMap s.readClaim

/-- One slice record (R88). A grout ratio NOT_JUDGED is sent as an absent field (DESIGN CHOICE, log 15). -/
def SliceRecord.readFields (r : SliceRecord) : List (List Byte) :=
  [num2 r.ring, num2 r.index, num2 r.length, num4 r.time, num4 r.expected, num4 r.removed, num4 r.void, num4 r.grout,
   num2 r.spoilRatio, optional num2 r.groutRatio, num4 r.rate, choice r.partialSlice, choice r.cut]

/-- The window (R93). A ratio NOT_JUDGED is sent as an absent field, the judgement as three two-choice bytes, the sums
saturated in four bytes, and the line pulse counts are the six of the stroke and then the six of the open slice (DESIGN
CHOICE, log 15). -/
def Balance.readFields (b : Balance) : List (List Byte) :=
  let w := b.window
  [num2 w.length, optional num2 b.spoilRatio, optional num2 b.groutRatio, choice b.judged.overExcavation,
   choice b.judged.underRemoval, choice b.judged.groutShortfall, num4 (sat top32 (windowSum w SliceRecord.expected)),
   num4 (sat top32 (windowSum w SliceRecord.removed)), num4 (sat top32 (windowSum w SliceRecord.void)),
   num4 (sat top32 (windowSum w SliceRecord.grout)), num1 w.length]
  ++ w.flatMap SliceRecord.readFields
  ++ [num4 b.screw, num4 b.idle] ++ b.strokePulses.toList.map num4 ++ b.slicePulses.toList.map num4

/-- A line's share as it now stands: at the open slice's start, at h while no slice is open (R125, log 16). -/
def State.lineShare (s : State) (i : LineIndex) : Nat :=
  match s.stc.slice with
  | none => (s.entryAt i s.strokeMm).share
  | some k => (s.entryAt i ((k.index - 1) * s.geo.sliceLength)).share

/-- One line (R122). The elapsed times of the backoff and probe window timers, whose range R122 does not give, are sent in two
bytes (DEDUCED, log 15). -/
def State.readLine (s : State) (i : LineIndex) : List (List Byte) :=
  let r := s.grs[i]
  [num1 r.state.ordinal, debt2 r.debt, num2 r.remainder, optional num2 r.pressure, choice r.valve]
  ++ r.noPulse.readFields num4 ++ [num2 r.backoff] ++ r.backoffTimer.readFields num2 ++ [num2 r.probes]
  ++ r.window.readFields num2 ++ [num2 s.geo.displacement[i], num2 (s.lineShare i), num2 (s.lineCeiling i)]

/-- The lines (R122): six records, the total positive debt, H and GROUT_DEBT. -/
def State.readLines (s : State) : List (List Byte) :=
  allLines.flatMap s.readLine ++ [num4 s.totalDebt, num2 s.lim.g.debt, choice s.hold.groutDebt]

/-- A train's fields (R113). -/
def Train.readFields (t : Train) (g : Geometry) : List (List Byte) :=
  [num2 t.number, num4 t.capacity, optional num2 t.factor, optional num4 t.capacityPulses, num4 t.fillPulses,
   num4 (t.fill g), choice t.urgent]

/-- A train slot: its train, or empty. -/
def readTrain (g : Geometry) : Option Train → List (List Byte)
  | none => [[0#8]]
  | some t => [1#8] :: t.readFields g

/-- The trains: the spoil monitor's whole state (R106). With no band in force, band low, band high, hard margin and source are
four absent fields (DESIGN CHOICE for the first three, log 15). -/
def State.readTrains (s : State) : List (List Byte) :=
  let band := s.bandInForce
  [optional num2 s.spm.pressure, optional num4 s.spm.age]
  ++ s.spm.stale.readFields num4
  ++ [optional num2 (band.map fun b => b.1.low), optional num2 (band.map fun b => b.1.high),
      optional num2 (band.map fun b => b.1.margin), optional (fun b => num1 (BandSource.ordinal b)) (band.map fun b => b.2.1),
      choice s.hold.faceLimit, choice s.hold.faceStale, num4 s.spm.unassigned]
  ++ readTrain s.geo s.spm.loading ++ readTrain s.geo s.spm.standby

/-- The governor (R105). -/
def State.readGovernor (s : State) : List (List Byte) :=
  [num2 s.rgv.ceiling, num2 s.rgv.threshold, num2 s.lim.a.ceilingMax, num2 s.lim.a.ceilingFloor, num2 s.lim.a.step,
   num2 s.lim.a.margin, num2 s.rgv.overspeeds, choice s.rgv.cutMark, choice s.hold.overspeed]

/-- The limits group of an argument (R158, R163). -/
def Limits.readFields (m : Limits) : Link → List (List Byte)
  | .advance => m.a.fields
  | .erector => m.e.fields
  | .grout => m.g.fields
  | .spoil => m.s.fields

/-- The geometry (R80). -/
def Geometry.readFields (g : Geometry) : List (List Byte) :=
  [num2 g.cutDiameter, num2 g.ringDiameter, num2 g.sliceLength, num2 g.pulsesPerRev, num2 g.volumePerRev]
  ++ g.displacement.toList.map num2 ++ [num4 g.faceArea, num4 g.voidArea]

/-- The restart record (R159). -/
def State.readRestart (s : State) : List (List Byte) :=
  [num1 s.tmb.cause.ordinal, num4 s.tmb.running, choice s.configured, choice s.tmb.fallback]

/-! ## The request (R158) -/

/-- The slot of a ring slot argument: its bits 0 and 1. -/
def slotOf (argument : Nat) : Slot :=
  match argument % 4 with
  | 0 => .plan
  | 1 => .stroke
  | 2 => .build
  | _ => .done

/-- The section of a ring slot argument: its bits 2 and 3, the other bits 0. -/
def sectionOf (argument : Nat) : Option Section3 :=
  match argument / 4 with
  | 0 => some .plan
  | 1 => some .result
  | 2 => some .stack
  | _ => none

/-- The link whose group a limits argument names. -/
def groupOf (argument : Nat) : Option Link :=
  match argument with
  | 0 => some .advance
  | 1 => some .erector
  | 2 => some .grout
  | 3 => some .spoil
  | _ => none

/-- The fields a selector and its argument give; none where the selector, or an argument it uses, is not allowed. -/
def State.readFields (s : State) (selector argument : Nat) : Option (List (List Byte)) :=
  match selector with
  | 1 => (sectionOf argument).map fun sec => s.readSlot (slotOf argument) sec
  | 2 => some s.readShoes
  | 3 => some s.readClaims
  | 4 => some s.bal.readFields
  | 5 => some s.readLines
  | 6 => some s.readTrains
  | 7 => some s.readGovernor
  | 8 => some [s.hold.bytes]
  | 9 => (groupOf argument).map s.lim.readFields
  | 10 => some s.geo.readFields
  | 11 => some s.readRestart
  | _ => none

/-- Cut a field list into parts of at most 118 bytes, no field split, each part as full as it can be (log 14). -/
def cutParts : List (List Byte) → List Byte → List (List Byte)
  | [], part => [part]
  | f :: fs, part =>
    if part.length + f.length ≤ Config.readPartBytes then cutParts fs (part ++ f) else part :: cutParts fs f

/-- The owner's part of READ: it changes no state (R158). -/
def Ev.readRequest (e : Ev) (body : List Byte) : Ev × Reply :=
  let index := fieldAt body 2 1
  match e.close.readFields (fieldAt body 0 1) (fieldAt body 1 1) with
  | none => (e, .refuse .badValue)
  | some fields =>
    let parts := cutParts fields []
    match parts[index]? with
    | none => (e, .refuse .badValue)
    | some part => (e, ⟨.ok, num1 index ++ num1 parts.length ++ part⟩)

/-- READ (R158, R159). -/
def execRead (l : Link) (body : List Byte) (s : State) : Answer :=
  request .read l body (fun e => e.readRequest body) s

end Sys2Proof.Machine
end

