-- ==== Sys2Proof/Machine/Stroke.lean ====
section
/-! DEFINITION. The requests of the stroke controller, and the inputs that act on it: STROKE_OPEN, STROKE_END,
STROKE_ABORT, HOLD, RESUME (R23, R29, R30, R36, R41), ESTOP_N (R28, R45, R134), the travel phases (R31), and the steps the
stroke takes by itself: drain completion, drain timeout, the move to BUILD (R19, R39). -/

namespace Sys2Proof.Machine

/-! ## Requests -/

/-- The owner's part of STROKE_OPEN (R18, R23). -/
def Ev.strokeOpen (e : Ev) : Ev × Reply :=
  match e.openable with
  | none => (e, .refuse .wrongState)
  | some p => (e.openStroke p, .ok)

/-- STROKE_OPEN (R23). -/
def execStrokeOpen (l : Link) (body : List Byte) (s : State) : Answer :=
  request .strokeOpen l body (fun e => e.strokeOpen) s

/-- The owner's part of STROKE_END (R36). -/
def Ev.strokeEnd (e : Ev) : Ev × Reply :=
  if e.stc.phase.sliceOpen then (e.startDrain, .ok) else (e, .refuse .wrongState)

/-- STROKE_END (R36). -/
def execStrokeEnd (l : Link) (body : List Byte) (s : State) : Answer :=
  request .strokeEnd l body (fun e => e.strokeEnd) s

/-- The owner's part of STROKE_ABORT (R41). -/
def Ev.strokeAbort (e : Ev) : Ev × Reply :=
  if e.stc.phase.isOpen then (e.abort, .ok) else (e, .refuse .wrongState)

/-- STROKE_ABORT (R41). -/
def execStrokeAbort (l : Link) (body : List Byte) (s : State) : Answer :=
  request .strokeAbort l body (fun e => e.strokeAbort) s

/-- The owner's part of HOLD (R29). -/
def Ev.masterHold (e : Ev) : Ev × Reply := (e.putHold .masterHold true, .ok)

/-- HOLD (R29). -/
def execHold (l : Link) (body : List Byte) (s : State) : Answer := request .hold l body (fun e => e.masterHold) s

/-- The owner's part of RESUME: the three latched members leave, and the consecutive-overspeed count returns to 0
(R30, R103). -/
def Ev.resume (e : Ev) : Ev × Reply :=
  if e.pins.estop then (e, .refuse .wrongState)
  else
    ((((e.putHold .estop false).putHold .masterHold false).putHold .overspeed false).modRgv fun g =>
      { g with overspeeds := 0 }, .ok)

/-- RESUME (R30). -/
def execResume (l : Link) (body : List Byte) (s : State) : Answer := request .resume l body (fun e => e.resume) s

/-! ## ESTOP_N -/

/-- ESTOP_N asserts (R28, R45, R134). -/
def Ev.estopOn (e : Ev) : Ev :=
  let e := (e.modPins fun p => { p with estop := true }).putHold .estop true
  let e := e.raise (.estop true)
  (e.modShoes fun r => { r with timer := r.timer.pause }).stopLines

/-- ESTOP_N is released; a line that an expired probe window has failed may complete the drain, judged once after all
of them (R28, R45, R134, R137, log 25). -/
def Ev.estopOff (e : Ev) : Ev :=
  let e := (e.modPins fun p => { p with estop := false }).raise (.estop false)
  (e.modShoes fun r => { r with timer := r.timer.restart }).restartLines.judgeDrain

/-- Follow an input level while the part is held in reset: only the level is seen (R166, log 8). -/
def State.onInput (s : State) (level : Pins → Pins) (f : Ev → Ev) : State :=
  if s.tmb.held.isSome then { s with pins := level s.pins } else s.event f

/-- ESTOP_N asserts; no change of level, no event (R28, log 7). -/
def execEstopAssert (s : State) : Answer :=
  .next (if s.pins.estop then s else s.onInput (fun p => { p with estop := true }) Ev.estopOn)

/-- ESTOP_N is released (R28, log 7). -/
def execEstopRelease (s : State) : Answer :=
  .next (if s.pins.estop then s.onInput (fun p => { p with estop := false }) Ev.estopOff else s)

/-! ## The travel phases -/

/-- The levels of the two travel phases. -/
def Pins.withTravel (p : Pins) (travP travQ : Bool) : Pins := { p with travP := travP, travQ := travQ }

/-- The travel phases take new levels: one step when exactly one of them changed (R31). -/
def Ev.travelTo (e : Ev) (travP travQ : Bool) : Ev :=
  let step := quadStep e.pins.travP e.pins.travQ travP travQ
  let e := e.modPins fun p => p.withTravel travP travQ
  match step with
  | none => e
  | some forward => e.travel forward

/-- TRAVEL_STEP: the levels TRAV_P and TRAV_Q now have (R31). -/
def execTravelStep (travP travQ : Bool) (s : State) : Answer :=
  .next (s.onInput (fun p => p.withTravel travP travQ) fun e => e.travelTo travP travQ)

/-! ## What the stroke does by itself -/

/-- DRAIN_COMPLETION: the drain condition, judged once more (R39, R137); void when it does not hold. -/
def execDrainCompletion (s : State) : Answer := .next (s.event Ev.judgeDrain)

/-- DRAIN_TIMEOUT: void when the drain timer has not reached T_drain (R39, log 5). -/
def execDrainTimeout (s : State) : Answer := .next (s.event Ev.judgeDrainTimer)

/-- STROKE_TO_BUILD: the move of an ENDED ring into an empty BUILD slot; void otherwise (R19). -/
def execStrokeToBuild (s : State) : Answer := .next (s.event Ev.strokeToBuild)

end Sys2Proof.Machine
end

