-- ==== Sys2Proof/Machine/Shoes.lean ====
section
/-! DEFINITION. The commands of the shoe table: SHOE_RESET, the seated and retracted-limit inputs, the move timers
(R46 to R52). -/

namespace Sys2Proof.Machine

/-! ## SHOE_RESET (R52) -/

/-- A shoe number read from a two-byte field: none above 15. -/
def shoeAt (body : List Byte) : Option ShoeIndex :=
  if h : fieldAt body 0 2 < 16 then some ⟨fieldAt body 0 2, h⟩ else none

/-- A shoe's state and fault reason, as SHOE_RESET answers them. -/
def ShoeRecord.resetBytes (r : ShoeRecord) : List Byte :=
  num1 r.state.ordinal ++ optional (fun why => num1 (FaultReason.ordinal why)) r.reason

/-- The owner's part of SHOE_RESET (R52). -/
def Ev.shoeReset (e : Ev) (body : List Byte) : Ev × Reply :=
  match shoeAt body with
  | none => (e, .refuse .badValue)
  | some i =>
    if e.sht[i].state = .fault ∧ e.sht[i].owner = none then
      let e := (e.enterExtending i).shoesMoved
      (e, ⟨.ok, e.sht[i].resetBytes⟩)
    else (e, .refuse .wrongState)

/-- SHOE_RESET (R52). -/
def execShoeReset (l : Link) (body : List Byte) (s : State) : Answer :=
  request .shoeReset l body (fun e => e.shoeReset body) s

/-! ## The position inputs -/

/-- A seated input takes a level. -/
def Pins.withSeated (p : Pins) (i : ShoeIndex) (b : Bool) : Pins := { p with seated := p.seated.set i.val b i.isLt }

/-- A retracted-limit input takes a level. -/
def Pins.withRetracted (p : Pins) (i : ShoeIndex) (b : Bool) : Pins :=
  { p with retracted := p.retracted.set i.val b i.isLt }

/-- SEATED_ASSERTS; no change of level, no event (R47, R50, log 7). -/
def execSeatedAsserts (i : ShoeIndex) (s : State) : Answer :=
  .next (if s.pins.seated[i] then s
    else s.onInput (fun p => p.withSeated i true) fun e =>
      ((e.modPins fun p => p.withSeated i true).seatedRose i).shoesMoved)

/-- SEATED_DROPS; no change of level, no event (R46, R49, log 7). -/
def execSeatedDrops (i : ShoeIndex) (s : State) : Answer :=
  .next (if s.pins.seated[i] then
      s.onInput (fun p => p.withSeated i false) fun e =>
        ((e.modPins fun p => p.withSeated i false).seatedFell i).shoesMoved
    else s)

/-- A retracted limit takes a level: its rise may end a retraction or show a conflict, its fall has no effect
(R46, R47, R50). -/
def Ev.limitTo (e : Ev) (i : ShoeIndex) (level : Bool) : Ev :=
  let e := e.modPins fun p => p.withRetracted i level
  if level then (e.limitRose i).shoesMoved else e

/-- RETRACTED_LIMIT_CHANGE; no change of level, no event (R46, log 7). -/
def execRetractedLimitChange (i : ShoeIndex) (level : Bool) (s : State) : Answer :=
  .next (if s.pins.retracted[i] = level then s
    else s.onInput (fun p => p.withRetracted i level) fun e => e.limitTo i level)

/-! ## Move timers (R48) -/

/-- A shoe's running move timer has reached its limit: T_retract in RETRACTING, T_extend in EXTENDING. -/
def State.moveDue (s : State) (i : ShoeIndex) : Bool :=
  match s.sht[i].state with
  | .retracting => s.sht[i].timer.reached s.lim.a.retract
  | .extending => s.sht[i].timer.reached s.lim.a.extend
  | .bearing | .clear | .fault => false

/-- A move timer is judged, the claims apart. -/
def Ev.judgeMove (e : Ev) (i : ShoeIndex) : Ev := e.when (e.moveDue i) fun e => e.enterFault i .moveTimeout

/-- MOVE_TIMEOUT: void when the move timer has not reached its limit (R48, log 5). -/
def execMoveTimeout (i : ShoeIndex) (s : State) : Answer :=
  .next (s.event fun e => e.when (e.moveDue i) fun e => (e.enterFault i .moveTimeout).shoesMoved)

end Sys2Proof.Machine
end

