-- ==== Sys2Proof/Machine/Setup.lean ====
section
/-! DEFINITION. CONFIGURE (R17, R161, R162) and SET_LIMITS (R163, R164). -/

namespace Sys2Proof.Machine

/-! ## SET_LIMITS -/

/-- The limit of a shoe's move differs between two writes of group A; false in a state with no move. -/
def ShoeState.limitChanged (st : ShoeState) (old new : LimitsA) : Bool :=
  match st with
  | .retracting => old.retract ≠ new.retract
  | .extending => old.extend ≠ new.extend
  | .bearing | .clear | .fault => false

/-- The running move timers that have already reached a changed limit expire, in ascending order of shoe (R48). The order is
the model's choice (DESIGN CHOICE, log 18): of several shoes of one claim, the last names the merged CLAIM record. -/
def Ev.expireMoves (e : Ev) (old new : LimitsA) : Ev :=
  e.each allShoes fun e i => e.when (e.sht[i].state.limitChanged old new) fun e => e.judgeMove i

/-- Group A written: the governor, the shoe table and the build arbiter take the new values (R104, R48, R57, R64). -/
def Ev.storeLimitsA (e : Ev) (new : LimitsA) : Ev :=
  let old := e.lim.a
  let e := (e.modLim fun m => { m with a := new }).modRgv fun g => g.clampTo new
  (e.expireMoves old new).shoesMoved

/-- Group E written (R146). -/
def Ev.storeLimitsE (e : Ev) (new : LimitsE) : Ev := e.modLim fun m => { m with e := new }

/-- A line whose backoff is below a new B0 has it raised, and its backoff timer is judged (R139). -/
def Ev.raiseBackoff (e : Ev) (i : LineIndex) (backoff : Nat) : Ev :=
  e.when (decide (e.grs[i].backoff < backoff)) fun e =>
    (e.modLine i fun r => { r with backoff := backoff }).judgeBackoff i

/-- Group G written: blockage, backoff, probe windows and GROUT_DEBT, then the drain and its timer (R139, R38). -/
def Ev.storeLimitsG (e : Ev) (new : LimitsG) : Ev :=
  let old := e.lim.g
  let e := e.modLim fun m => { m with g := new }
  let e := e.when (old.block ≠ new.block) fun e => e.each allLines Ev.judgeBlockage
  let e := e.each allLines fun e i => e.raiseBackoff i new.backoff
  let e := e.when (old.probe ≠ new.probe) fun e => e.each allLines Ev.judgeWindow
  let e := e.when (old.debt ≠ new.debt) Ev.judgeDebt
  e.judgeDrain.when (old.drain ≠ new.drain) Ev.judgeDrainTimer

/-- Group S written: FACE_STALE while a stroke is open, and urgency (R111, R117). -/
def Ev.storeLimitsS (e : Ev) (new : LimitsS) : Ev :=
  let old := e.lim.s
  let e := e.modLim fun m => { m with s := new }
  let e := e.when (old.stale ≠ new.stale && e.stc.phase.isOpen) fun e => e.putHold .faceStale e.staleNow
  e.when (old.urgent ≠ new.urgent) Ev.judgeUrgent

/-- The owner's part of SET_LIMITS: the sending link's own group, clamped, and answered as stored (R163, R164). -/
def Ev.setLimits (e : Ev) (l : Link) (body : List Byte) : Ev × Reply :=
  match l with
  | .advance =>
    let new := (limitsABody body).clamped
    (e.storeLimitsA new, ⟨Result.ofClamp (new ≠ limitsABody body), new.fields.flatten⟩)
  | .erector =>
    let new := (limitsEBody body).clamped
    (e.storeLimitsE new, ⟨Result.ofClamp (new ≠ limitsEBody body), new.fields.flatten⟩)
  | .grout =>
    let new := (limitsGBody body).clamped
    (e.storeLimitsG new, ⟨Result.ofClamp (new ≠ limitsGBody body), new.fields.flatten⟩)
  | .spoil =>
    let new := (limitsSBody body).clamped
    (e.storeLimitsS new, ⟨Result.ofClamp (new ≠ limitsSBody body), new.fields.flatten⟩)

/-- SET_LIMITS (R163, R164). -/
def execSetLimits (l : Link) (body : List Byte) (s : State) : Answer :=
  request .setLimits l body (fun e => e.setLimits l body) s

/-! ## CONFIGURE -/

/-- The default face plan (R17). -/
def FacePlan.default : FacePlan := ⟨0, 1000, 50, 850, 1250⟩

/-- The fresh PLAN record of an accepted CONFIGURE (R17). -/
def PlanRing.fresh (ring : Nat) : PlanRing where
  number := ring
  pieces := none
  target := none
  endAtTarget := false
  face := FacePlan.default
  marks := ⟨.default, .default, .default, .default⟩
  chains := Vector.replicate 6 []

/-- The ring store after an accepted CONFIGURE: only PLAN is occupied, and every grout entry is free (R2, R17). -/
def RingStore.fresh (ring : Nat) : RingStore := ⟨some (PlanRing.fresh ring), none, none, none, Config.poolEntries⟩

/-- The balance unit after an accepted CONFIGURE (R95, R93). -/
def Balance.configured (b : Balance) : Balance :=
  { b with window := [], idle := 0, spoilRatio := none, groutRatio := none, judged := Judgement.nothing }

/-- The governor after an accepted CONFIGURE, from the limits as they stand, the mark at no (R96, R105). -/
def Governor.configured (g : Governor) (a : LimitsA) : Governor :=
  { g with ceiling := a.ceilingFloor, threshold := a.ceilingMax, overspeeds := 0, cutMark := false }

/-- An accepted CONFIGURE (R162). -/
def Ev.configure (e : Ev) (c : ConfigureBody) : Ev :=
  let e := e.modRst fun _ => RingStore.fresh c.firstRing
  let e := (e.modGeo fun _ => c.geometry).modConfigured fun _ => true
  let e := e.modBal Balance.configured
  let e := e.modRgv fun g => g.configured e.lim.a
  e.recomputeTrains FacePlan.default.fill

/-- The owner's part of CONFIGURE (R161). -/
def Ev.configureRequest (e : Ev) (body : List Byte) : Ev × Reply :=
  let c := configureBody body
  if e.rst.stroke.isSome || e.rst.build.isSome then (e, .refuse .wrongState)
  else if c.inRange then
    (e.configure c, ⟨.ok, num4 c.geometry.faceArea ++ num4 c.geometry.voidArea ++ num2 c.firstRing⟩)
  else (e, .refuse .badValue)

/-- CONFIGURE (R161, R162). -/
def execConfigure (l : Link) (body : List Byte) (s : State) : Answer :=
  request .configure l body (fun e => e.configureRequest body) s

end Sys2Proof.Machine
end

