-- ==== Sys2Proof/Machine/Spoil.lean ====
section
/-! DEFINITION. The commands of the spoil monitor: the screw pulse (R81, R116), FACE_PRESSURE (R107 to R111), TRAIN_IN and
TRAIN_DEPART (R115, R119), the staleness timeout (R111). -/

namespace Sys2Proof.Machine

/-! ## The screw conveyor (R81, R116) -/

/-- BAL counts a screw pulse into N, or into the idle count while no stroke is open (R81). -/
def Ev.countScrew (e : Ev) : Ev :=
  if e.stc.phase.isOpen then (e.modBal fun b => { b with screw := sat topPulses (b.screw + 1) }).passScrew
  else e.modBal fun b => { b with idle := sat topPulses (b.idle + 1) }

/-- SPM counts the same pulse into the loading train or the unassigned count (R116). -/
def Ev.countTrain (e : Ev) : Ev := (e.modSpm SpoilMonitor.pulse).judgeTrains

/-- SCREW_PULSE: a rising edge of SCREW (R81, R116). -/
def execScrewPulse (s : State) : Answer := .next (s.event fun e => e.countScrew.countTrain)

/-! ## FACE_PRESSURE (R107) -/

/-- Steps 1 and 2: the value stored, the age and the staleness timer at 0, FACE_STALE gone. -/
def Ev.storeFace (e : Ev) (v : Nat) : Ev :=
  (e.modSpm fun m =>
    { m with pressure := some v, age := some 0, stale := { m.stale with elapsed := 0 } }).putHold .faceStale false

/-- The open slice's index, 0 when none is open. -/
def State.sliceIndex (s : State) : Nat := (s.stc.slice.map fun k => k.index).getD 0

/-- A report outside the band: FACE_BAND, and while a slice is open the flag and the cut (R109). -/
def Ev.faceOutside (e : Ev) (v : Nat) (f : FacePlan) (source : BandSource) (ring : Nat) : Ev :=
  let e := e.raise (.faceBand v f.low f.high source ring e.stc.phase.sliceOpen)
  e.when e.stc.phase.sliceOpen fun e =>
    (e.modStrokeFlags fun g => { g with faceExcursion := true }).cutCeiling .faceBand e.sliceIndex

/-- Steps 3 and 4: the value judged against the band in force and its hard limits (R109, R110). With no band in force nothing
is judged, and the three judgements are answered as no (DESIGN CHOICE, log 15). -/
def Ev.judgeFace (e : Ev) (v : Nat) : Ev × Reply :=
  match e.bandInForce with
  | none => (e, ⟨.ok, num2 v ++ choice false ++ choice false ++ choice false⟩)
  | some (f, source, ring) =>
    let outside := f.outsideBand v
    let cut := outside && e.stc.phase.sliceOpen && !e.rgv.cutMark
    let e := e.when outside fun e => e.faceOutside v f source ring
    (e.putHold .faceLimit (f.outsideHard v),
     ⟨.ok, num2 v ++ choice outside ++ choice (f.outsideHard v) ++ choice cut⟩)

/-- The owner's part of FACE_PRESSURE (R107). -/
def Ev.facePressure (e : Ev) (body : List Byte) : Ev × Reply :=
  let v := sat 1000 (fieldAt body 0 2)
  (e.storeFace v).judgeFace v

/-- FACE_PRESSURE (R107). -/
def execFacePressure (l : Link) (body : List Byte) (s : State) : Answer :=
  request .facePressure l body (fun e => e.facePressure body) s

/-- STALENESS_TIMEOUT: void while the staleness timer is short of T_stale or no stroke is open (R111, log 5). -/
def execStalenessTimeout (s : State) : Answer :=
  .next (s.event fun e => e.when e.staleNow fun e => e.putHold .faceStale true)

/-! ## TRAIN_IN (R115) -/

/-- The record of an accepted train: computed for the fill factor in force when the part is configured. -/
def State.newTrain (s : State) (number capacity : Nat) : Train :=
  let t : Train := ⟨number, capacity, none, none, 0, false⟩
  if s.configured then t.computed s.geo s.fillFactor else t

/-- A train of this number stands in either slot. -/
def SpoilMonitor.holds (m : SpoilMonitor) (number : Nat) : Bool :=
  m.loading.any (fun t => t.number = number) || m.standby.any (fun t => t.number = number)

/-- A train enters LOADING: it takes the unassigned pulses, and the three judgements follow. -/
def Ev.loadTrain (e : Ev) (t : Train) : Ev :=
  (e.modSpm fun m => SpoilMonitor.takeUnassigned { m with loading := some t }).judgeTrains

/-- The fill pulses of the loading train. -/
def SpoilMonitor.loadingPulses (m : SpoilMonitor) : Nat := (m.loading.map fun t => t.fillPulses).getD 0

/-- The owner's part of TRAIN_IN, its conditions in the order of R115; a train number above 255 is refused like the
capacity (log 17). The fill pulses of the answer are a field that may be absent, and absent for STANDBY (DESIGN CHOICE,
log 15). -/
def Ev.trainIn (e : Ev) (body : List Byte) : Ev × Reply :=
  let number := fieldAt body 0 2
  let capacity := fieldAt body 2 4
  if !within 10000 2000000 capacity || 255 < number then (e, .refuse .badValue)
  else if e.spm.holds number then (e, .refuse .wrongState)
  else
    let t := e.newTrain number capacity
    if e.spm.loading.isNone then
      let e := e.loadTrain t
      (e, ⟨.ok, num1 0 ++ optional num4 t.capacityPulses ++ optional num4 (some e.spm.loadingPulses)⟩)
    else if e.spm.standby.isNone then
      (e.modSpm fun m => { m with standby := some t }, ⟨.ok, num1 1 ++ optional num4 t.capacityPulses ++ optional num4 none⟩)
    else (e, .refuse .full)

/-- TRAIN_IN (R115). -/
def execTrainIn (l : Link) (body : List Byte) (s : State) : Answer :=
  request .trainIn l body (fun e => e.trainIn body) s

/-! ## TRAIN_DEPART (R119) -/

/-- What TRAIN_DEPART answers of the train that left. -/
def Train.departBytes (t : Train) (g : Geometry) : List Byte :=
  num2 t.number ++ num4 t.capacity ++ optional num4 t.capacityPulses ++ num4 t.fillPulses ++ num4 (t.fill g)

/-- The LOADING train leaves and the STANDBY train, if any, moves up. -/
def SpoilMonitor.depart (m : SpoilMonitor) : SpoilMonitor :=
  SpoilMonitor.takeUnassigned { m with loading := m.standby, standby := none }

/-- The owner's part of TRAIN_DEPART (R119). -/
def Ev.trainDepart (e : Ev) : Ev × Reply :=
  match e.spm.loading with
  | none => (e, .refuse .wrongState)
  | some t => ((e.modSpm SpoilMonitor.depart).judgeTrains, ⟨.ok, t.departBytes e.geo⟩)

/-- TRAIN_DEPART (R119). -/
def execTrainDepart (l : Link) (body : List Byte) (s : State) : Answer :=
  request .trainDepart l body (fun e => e.trainDepart) s

end Sys2Proof.Machine
end

