-- ==== Sys2Proof/Machine/Store.lean ====
section
/-! DEFINITION. The plan writes of the ring store: PLAN_PIECES, PLAN_STROKE, PLAN_FACE and the three grout writes
(R7 to R15). -/

namespace Sys2Proof.Machine

/-- A plan write is taken against the PLAN record; without one it is refused with WRONG_STATE (R7). -/
def Ev.planWrite (e : Ev) (write : PlanRing → Ev × Reply) : Ev × Reply :=
  match e.rst.plan with
  | none => (e, .refuse .wrongState)
  | some p => write p

/-! ## PLAN_PIECES (R8) -/

/-- The owner's part of PLAN_PIECES. -/
def Ev.planPieces (e : Ev) (body : List Byte) : Ev × Reply :=
  e.planWrite fun _ =>
    match tiling (piecesBody body).1 (piecesBody body).2 with
    | none => (e, .refuse .badValue)
    | some ps =>
      (e.modPlanRing fun p => { p with pieces := some ps, marks := { p.marks with pieces := .given } }, .ok)

/-- PLAN_PIECES (R8). -/
def execPlanPieces (l : Link) (body : List Byte) (s : State) : Answer :=
  request .planPieces l body (fun e => e.planPieces body) s

/-! ## PLAN_STROKE (R9) -/

/-- The owner's part of PLAN_STROKE. -/
def Ev.planStroke (e : Ev) (body : List Byte) : Ev × Reply :=
  e.planWrite fun _ =>
    match within 600 2400 (fieldAt body 0 2), choiceAt body 2 with
    | true, some atTarget =>
      (e.modPlanRing fun p =>
        { p with target := some (fieldAt body 0 2), endAtTarget := atTarget, marks := { p.marks with stroke := .given } },
       .ok)
    | _, _ => (e, .refuse .badValue)

/-- PLAN_STROKE (R9). -/
def execPlanStroke (l : Link) (body : List Byte) (s : State) : Answer :=
  request .planStroke l body (fun e => e.planStroke body) s

/-! ## PLAN_FACE (R10, R11) -/

/-- The bytes of a face plan's five values. -/
def FacePlan.bytes (f : FacePlan) : List Byte := num2 f.low ++ num2 f.high ++ num2 f.margin ++ num2 f.fill ++ num2 f.bulking

/-- The "now" option writes the STROKE ring's band and leaves its fill factor and bulking (R11). -/
def FacePlan.bandFrom (old new : FacePlan) : FacePlan := { old with low := new.low, high := new.high, margin := new.margin }

/-- The write of PLAN_FACE, the "now" option applied or not (R10, R11). -/
def Ev.writeFace (e : Ev) (f : FacePlan) (applied : Bool) : Ev :=
  let e := e.modPlanRing fun p => { p with face := f, marks := { p.marks with face := .given } }
  e.when applied fun e => e.modStrokeRing fun r =>
    { r with face := r.face.bandFrom f, marks := { r.marks with face := .given } }

/-- The owner's part of PLAN_FACE. -/
def Ev.planFace (e : Ev) (body : List Byte) : Ev × Reply :=
  e.planWrite fun _ =>
    match choiceAt body 10 with
    | none => (e, .refuse .badValue)
    | some now =>
      let f := (faceBody body).clamped
      let applied := now && e.stc.phase.isOpen
      (e.writeFace f applied, ⟨Result.ofClamp (f ≠ faceBody body), f.bytes ++ choice applied⟩)

/-- PLAN_FACE (R10, R11). -/
def execPlanFace (l : Link) (body : List Byte) (s : State) : Answer :=
  request .planFace l body (fun e => e.planFace body) s

/-! ## The grout writes (R13 to R15) -/

/-- A chain holds an entry with this `from`. -/
def chainHas (chain : List GroutEntry) (start : Nat) : Bool := chain.any fun g => g.start = start

/-- Replace the entry of the same `from`. -/
def replaceEntry (chain : List GroutEntry) (g : GroutEntry) : List GroutEntry :=
  chain.map fun x => if x.start = g.start then g else x

/-- Link a new entry in at the place that keeps the chain in ascending order of `from`. -/
def insertEntry (chain : List GroutEntry) (g : GroutEntry) : List GroutEntry :=
  chain.takeWhile (fun x => x.start < g.start) ++ g :: chain.dropWhile (fun x => x.start < g.start)

/-- Unlink the entry with this `from`. -/
def dropEntry (chain : List GroutEntry) (start : Nat) : List GroutEntry := chain.eraseP fun x => x.start = start

/-- Write one chain of the PLAN ring, mark its grout part GIVEN, and set the pool's free entries (R12). -/
def Ev.writeChain (e : Ev) (i : LineIndex) (chain : List GroutEntry) (free : Nat) : Ev :=
  (e.modPlanRing fun p =>
    { p with chains := p.chains.set i.val chain i.isLt, marks := { p.marks with grout := .given } }).modRst fun t =>
      { t with free := free }

/-- The counts a grout write answers: the line's chain, and the PLAN ring. -/
def Ev.chainCounts (e : Ev) (i : LineIndex) : List Byte :=
  match e.rst.plan with
  | none => num2 0 ++ num2 0
  | some p => num2 p.chains[i].length ++ num2 (chainCount p.chains)

/-- The owner's part of PLAN_GROUT_SET (R13). -/
def Ev.planGroutSet (e : Ev) (body : List Byte) : Ev × Reply :=
  e.planWrite fun p =>
    match lineAt body 0 with
    | none => (e, .refuse .badValue)
    | some i =>
      let start := fieldAt body 1 2
      let g : GroutEntry := ⟨start, clamp 0 1000 (fieldAt body 3 2), clamp 100 2000 (fieldAt body 5 2)⟩
      let result := Result.ofClamp (g ≠ ⟨start, fieldAt body 3 2, fieldAt body 5 2⟩)
      let chain := p.chains[i]
      if 2400 < start then (e, .refuse .badValue)
      else if chainHas chain start then
        let e := e.writeChain i (replaceEntry chain g) e.rst.free
        (e, ⟨result, e.chainCounts i⟩)
      else if Config.chainEntries ≤ chain.length || Config.ringEntries ≤ chainCount p.chains then
        (e, .refuse .full)
      else
        let e := e.writeChain i (insertEntry chain g) (e.rst.free - 1)
        (e, ⟨result, e.chainCounts i⟩)

/-- PLAN_GROUT_SET (R13). -/
def execPlanGroutSet (l : Link) (body : List Byte) (s : State) : Answer :=
  request .planGroutSet l body (fun e => e.planGroutSet body) s

/-- The owner's part of PLAN_GROUT_DROP (R14). -/
def Ev.planGroutDrop (e : Ev) (body : List Byte) : Ev × Reply :=
  e.planWrite fun p =>
    match lineAt body 0 with
    | none => (e, .refuse .badValue)
    | some i =>
      let start := fieldAt body 1 2
      if chainHas p.chains[i] start then
        let e := e.writeChain i (dropEntry p.chains[i] start) (e.rst.free + 1)
        (e, ⟨.ok, e.chainCounts i⟩)
      else (e, .refuse .badValue)

/-- PLAN_GROUT_DROP (R14). -/
def execPlanGroutDrop (l : Link) (body : List Byte) (s : State) : Answer :=
  request .planGroutDrop l body (fun e => e.planGroutDrop body) s

/-- The owner's part of PLAN_GROUT_CLEAR (R15). -/
def Ev.planGroutClear (e : Ev) (body : List Byte) : Ev × Reply :=
  e.planWrite fun p =>
    match lineAt body 0 with
    | none => (e, .refuse .badValue)
    | some i => (e.writeChain i [] (e.rst.free + p.chains[i].length), .ok)

/-- PLAN_GROUT_CLEAR (R15). -/
def execPlanGroutClear (l : Link) (body : List Byte) (s : State) : Answer :=
  request .planGroutClear l body (fun e => e.planGroutClear body) s

end Sys2Proof.Machine
end

