-- ==== Sys2Proof/Machine/Time.lean ====
section
/-! DEFINITION. Power, reset and the reference clock (R166, R167), the 1 ms tick (R34, R35, R141, R167) and the expiry of
the links' silence timers (R147). -/

namespace Sys2Proof.Machine

/-! ## Reset (R166) -/

/-- Held in reset: every block at its reset value, the notice lists empty, no select period (R166, log 8). -/
def State.holdInReset (s : State) (pins : Pins) (cause : ResetCause) : State :=
  State.resetWith s.pending pins (some cause) cause []

/-- POWER_ON: power comes up and the part is held in reset (R166). -/
def execPowerOn (s : State) : Answer := .next (s.holdInReset s.pins .powerOn)

/-- RESET_N_ASSERT: the cause stays POWER_ON when RESET_N is asserted during the power-up (R166). -/
def execResetNAssert (s : State) : Answer :=
  .next (s.holdInReset { s.pins with resetN := true } (s.tmb.held.getD .resetPin))

/-- RESET_END: each block takes its reset state from the input lines, and each list its RESTART record (R149, R166);
void when the part is not held in reset. -/
def execResetEnd (s : State) : Answer :=
  match s.tmb.held with
  | none => .next s
  | some cause => .next (State.resetWith s.pending { s.pins with resetN := false } none cause [restartRecord cause])

/-! ## The reference clock (R167) -/

/-- CLOCK_FALLBACK: the timebase falls over to the internal oscillator. -/
def execClockFallback (s : State) : Answer :=
  .next (s.onInput (fun p => { p with refclk := false }) fun e =>
    (e.modPins fun p => { p with refclk := false }).modTmb fun t => { t with fallback := true })

/-- CLOCK_RESTORED: the timebase goes back to REFCLK (log 23). -/
def execClockRestored (s : State) : Answer :=
  .next (s.onInput (fun p => { p with refclk := true }) fun e =>
    (e.modPins fun p => { p with refclk := true }).modTmb fun t => { t with fallback := false })

/-! ## The tick -/

/-- One ms of the running time, which wraps from 4,294,967,295 to 0 (R141). -/
def Timebase.tick (t : Timebase) : Timebase := { t with running := (t.running + 1) % 4294967296 }

/-- One ms of the stroke controller: the slice timer in ADVANCING, the drain timer while it runs (R34, R38). -/
def StrokeControl.tick (c : StrokeControl) : StrokeControl :=
  { c with sliceTimer := if c.phase = .advancing then sat 3600000 (c.sliceTimer + 1) else c.sliceTimer,
           drainTimer := c.drainTimer.tick 600000 }

/-- One ms of the stroke's time: advancing or held, neither in DRAINING (R35). -/
def StrokeResult.tick (r : StrokeResult) (p : StrokePhase) : StrokeResult :=
  match p with
  | .advancing => { r with timeAdvancing := sat top32 (r.timeAdvancing + 1) }
  | .held => { r with timeHeld := sat top32 (r.timeHeld + 1) }
  | .none | .draining | .ended => r

/-- One ms of a shoe's move timer (R48). -/
def ShoeRecord.tick (r : ShoeRecord) : ShoeRecord := { r with timer := r.timer.tick 120000 }

/-- One ms of the spoil monitor: the age of the last report and the staleness timer (R106). -/
def SpoilMonitor.tick (m : SpoilMonitor) : SpoilMonitor :=
  { m with age := m.age.map fun n => sat top32 (n + 1), stale := m.stale.tick top32 }

/-- One ms of a line's three timers (R122). -/
def LineRecord.tick (r : LineRecord) : LineRecord :=
  { r with noPulse := r.noPulse.tick top32, backoffTimer := r.backoffTimer.tick Config.backoffCap,
           window := r.window.tick 10000 }

/-- One ms of a link's silence and check timers (R146). -/
def Silence.tick (c : Silence) : Silence :=
  { c with silenceTimer := c.silenceTimer.tick 5000, checkTimer := c.checkTimer.tick Config.checkPeriod }

/-- The tick itself: one ms for every timer that runs (R167). -/
def Ev.countTick (e : Ev) : Ev :=
  let e := e.modTmb Timebase.tick
  let e := e.modResult fun r => r.tick e.stc.phase
  let e := e.modStc StrokeControl.tick
  let e := (e.modShoes ShoeRecord.tick).modSpm SpoilMonitor.tick
  (e.modGrs (mapAll LineRecord.tick)).modLif fun p =>
    allLinks.foldl (fun q l => q.set l { q.get l with silence := (q.get l).silence.tick }) p

/-- A timer that has reached its limit with its expiry not yet taken expires before the next ms is counted
(log 5): the move timers, the lines' timers, the drain timer, the staleness timer, the silence and check timers, each
its own event. -/
def State.overdue (s : State) : State :=
  let s := allShoes.foldl (fun s i => s.event fun e => e.when (e.moveDue i) fun e =>
    (e.enterFault i .moveTimeout).shoesMoved) s
  let s := allLines.foldl (fun s i => s.event fun e => (e.judgeBlockage i).judgeDrain) s
  let s := allLines.foldl (fun s i => s.event fun e => (e.judgeBackoff i).judgeDrain) s
  let s := allLines.foldl (fun s i => s.event fun e => (e.judgeWindow i).judgeDrain) s
  let s := s.event Ev.judgeDrainTimer
  let s := s.event fun e => e.when e.staleNow fun e => e.putHold .faceStale true
  let s := allLinks.foldl (fun s l => s.event fun e => e.judgeSilence l) s
  allLinks.foldl (fun s l => s.event fun e => e.judgeCheck l) s

/-- TIMEBASE_TICK (R34, R35, R141, R167). -/
def execTimebaseTick (s : State) : Answer := .next (s.overdue.event Ev.countTick)

/-! ## The silence sequence (R147) -/

/-- SILENCE_TIMEOUT: void when the silence timer is short of T_silent (R147, log 5). -/
def execSilenceTimeout (l : Link) (s : State) : Answer := .next (s.event fun e => e.judgeSilence l)

/-- CHECK_TIMER_EXPIRY: void when the check timer is short of 1,000 ms (R147, log 5). -/
def execCheckTimerExpiry (l : Link) (s : State) : Answer := .next (s.event fun e => e.judgeCheck l)

end Sys2Proof.Machine
end

