-- ==== Sys2Proof/Machine/Dispatch.lean ====
section
/-! DEFINITION. The meaning of each command: one arm per row of the table. -/

namespace Sys2Proof.Machine

/-- The effect of a command on everything but the queue. -/
def exec (i : Instr) (s : State) : Host.Outcome State Fault Refusal :=
  match i with
  | .takeNotice l body => Sys2Proof.Machine.execTakeNotice l body s
  | .read l body => Sys2Proof.Machine.execRead l body s
  | .linkClear l body => Sys2Proof.Machine.execLinkClear l body s
  | .setLimits l body => Sys2Proof.Machine.execSetLimits l body s
  | .configure l body => Sys2Proof.Machine.execConfigure l body s
  | .planStroke l body => Sys2Proof.Machine.execPlanStroke l body s
  | .strokeOpen l body => Sys2Proof.Machine.execStrokeOpen l body s
  | .strokeEnd l body => Sys2Proof.Machine.execStrokeEnd l body s
  | .strokeAbort l body => Sys2Proof.Machine.execStrokeAbort l body s
  | .hold l body => Sys2Proof.Machine.execHold l body s
  | .resume l body => Sys2Proof.Machine.execResume l body s
  | .shoeReset l body => Sys2Proof.Machine.execShoeReset l body s
  | .planPieces l body => Sys2Proof.Machine.execPlanPieces l body s
  | .claim l body => Sys2Proof.Machine.execClaim l body s
  | .withdraw l body => Sys2Proof.Machine.execWithdraw l body s
  | .claimDone l body => Sys2Proof.Machine.execClaimDone l body s
  | .cancel l body => Sys2Proof.Machine.execCancel l body s
  | .planGroutSet l body => Sys2Proof.Machine.execPlanGroutSet l body s
  | .planGroutDrop l body => Sys2Proof.Machine.execPlanGroutDrop l body s
  | .planGroutClear l body => Sys2Proof.Machine.execPlanGroutClear l body s
  | .linePressure l body => Sys2Proof.Machine.execLinePressure l body s
  | .lineClear l body => Sys2Proof.Machine.execLineClear l body s
  | .planFace l body => Sys2Proof.Machine.execPlanFace l body s
  | .facePressure l body => Sys2Proof.Machine.execFacePressure l body s
  | .trainIn l body => Sys2Proof.Machine.execTrainIn l body s
  | .trainDepart l body => Sys2Proof.Machine.execTrainDepart l body s
  | .unknownRequest l code body => Sys2Proof.Machine.execUnknownRequest l code body s
  | .frameError l code body crc => Sys2Proof.Machine.execFrameError l code body crc s
  | .frameLengthError l code length => Sys2Proof.Machine.execFrameLengthError l code length s
  | .selectRelease l => Sys2Proof.Machine.execSelectRelease l s
  | .estopAssert => Sys2Proof.Machine.execEstopAssert s
  | .estopRelease => Sys2Proof.Machine.execEstopRelease s
  | .travelStep travP travQ => Sys2Proof.Machine.execTravelStep travP travQ s
  | .screwPulse => Sys2Proof.Machine.execScrewPulse s
  | .pumpPulse n => Sys2Proof.Machine.execPumpPulse n s
  | .seatedAsserts n => Sys2Proof.Machine.execSeatedAsserts n s
  | .seatedDrops n => Sys2Proof.Machine.execSeatedDrops n s
  | .retractedLimitChange n level => Sys2Proof.Machine.execRetractedLimitChange n level s
  | .powerOn => Sys2Proof.Machine.execPowerOn s
  | .resetNAssert => Sys2Proof.Machine.execResetNAssert s
  | .resetEnd => Sys2Proof.Machine.execResetEnd s
  | .clockFallback => Sys2Proof.Machine.execClockFallback s
  | .clockRestored => Sys2Proof.Machine.execClockRestored s
  | .timebaseTick => Sys2Proof.Machine.execTimebaseTick s
  | .moveTimeout n => Sys2Proof.Machine.execMoveTimeout n s
  | .drainTimeout => Sys2Proof.Machine.execDrainTimeout s
  | .stalenessTimeout => Sys2Proof.Machine.execStalenessTimeout s
  | .noPulseTimeout n => Sys2Proof.Machine.execNoPulseTimeout n s
  | .backoffExpiry n => Sys2Proof.Machine.execBackoffExpiry n s
  | .probeWindowExpiry n => Sys2Proof.Machine.execProbeWindowExpiry n s
  | .silenceTimeout l => Sys2Proof.Machine.execSilenceTimeout l s
  | .checkTimerExpiry l => Sys2Proof.Machine.execCheckTimerExpiry l s
  | .drainCompletion => Sys2Proof.Machine.execDrainCompletion s
  | .claimGrant => Sys2Proof.Machine.execClaimGrant s
  | .strokeToBuild => Sys2Proof.Machine.execStrokeToBuild s
  | .selectAssert l => Sys2Proof.Machine.execSelectAssert l s

end Sys2Proof.Machine
end

