-- ==== Sys2Proof/Safety.lean ====
section
/-! DEFINITION. What the statements speak of: which commands are frames, when a link is heard, what an answer and an
untouched part are, and the laws of the device the spec states. -/

namespace Sys2Proof

/-- The command that carries a request. -/
def Request.command (q : Request) (l : Link) (body : List Byte) : Instr :=
  match q with
  | .takeNotice => .takeNotice l body | .read => .read l body | .linkClear => .linkClear l body
  | .setLimits => .setLimits l body | .configure => .configure l body | .planStroke => .planStroke l body
  | .strokeOpen => .strokeOpen l body | .strokeEnd => .strokeEnd l body | .strokeAbort => .strokeAbort l body
  | .hold => .hold l body | .resume => .resume l body | .shoeReset => .shoeReset l body
  | .planPieces => .planPieces l body | .claim => .claim l body | .withdraw => .withdraw l body
  | .claimDone => .claimDone l body | .cancel => .cancel l body | .planGroutSet => .planGroutSet l body
  | .planGroutDrop => .planGroutDrop l body | .planGroutClear => .planGroutClear l body
  | .linePressure => .linePressure l body | .lineClear => .lineClear l body | .planFace => .planFace l body
  | .facePressure => .facePressure l body | .trainIn => .trainIn l body | .trainDepart => .trainDepart l body

/-- The link a command's frame arrives on, for the commands that are frames. -/
def Instr.frameLink : Instr → Option Link
  | .takeNotice l _ | .read l _ | .linkClear l _ | .setLimits l _ | .configure l _ | .planStroke l _ => some l
  | .strokeOpen l _ | .strokeEnd l _ | .strokeAbort l _ | .hold l _ | .resume l _ | .shoeReset l _ => some l
  | .planPieces l _ | .claim l _ | .withdraw l _ | .claimDone l _ | .cancel l _ => some l
  | .planGroutSet l _ | .planGroutDrop l _ | .planGroutClear l _ | .linePressure l _ | .lineClear l _ => some l
  | .planFace l _ | .facePressure l _ | .trainIn l _ | .trainDepart l _ => some l
  | .unknownRequest l _ _ | .frameError l _ _ _ | .frameLengthError l _ _ => some l
  | .selectRelease _ | .selectAssert _ | .estopAssert | .estopRelease | .travelStep _ _ | .screwPulse => none
  | .pumpPulse _ | .seatedAsserts _ | .seatedDrops _ | .retractedLimitChange _ _ | .powerOn | .resetNAssert => none
  | .resetEnd | .clockFallback | .clockRestored | .timebaseTick | .moveTimeout _ | .drainTimeout => none
  | .stalenessTimeout | .noPulseTimeout _ | .backoffExpiry _ | .probeWindowExpiry _ | .silenceTimeout _ => none
  | .checkTimerExpiry _ | .drainCompletion | .claimGrant | .strokeToBuild => none

/-- A frame command whose frame is valid: every request, and a frame with an unknown code (R147, R151). -/
def Instr.isValidFrame (i : Instr) : Bool :=
  match i with
  | .frameError _ _ _ _ | .frameLengthError _ _ _ => false
  | i => i.frameLink.isSome

end Sys2Proof

namespace Sys2Proof.Machine

/-! ## Words the statements use -/

/-- The part is not held in reset. -/
def State.running (s : State) : Bool := s.tmb.held.isNone

/-- The stroke state is the one its hold-cause set gives (R26): ADVANCING only with the set empty, HELD only with it
non-empty. -/
def State.steady (s : State) : Bool := s.stc.phase.follow s.hold = s.stc.phase

/-- The part takes a frame on the link, the link is not in lapse, so that the frame ends no lapse, and the stroke state is
the one its hold-cause set gives. -/
def State.hears (s : State) (l : Link) : Bool := s.receives l && !(s.lif.get l).silence.lapsed && s.steady

/-- The response the link formed last has this result and body, its status summary that of the state it left (R154). -/
def State.answered (t : State) (l : Link) (r : Reply) : Prop :=
  (t.lif.get l).last = some ⟨t.summary l, r.result, r.body⟩

/-- A valid frame came in on the link alone: the other interfaces are as they were, and the silence state of this one has
its sequence at the start again (R147; the silence timer of a link that is not armed stands at 0 then too, log 9). -/
def State.heardOn (s t : State) (l : Link) : Prop :=
  (∀ m, m ≠ l → t.lif.get m = s.lif.get m) ∧ (t.lif.get l).silence = (s.lif.get l).silence.spoken

/-- A valid frame came in on the link, in an event that may have armed or disarmed links (R146): but for that, no other
interface changed. -/
def State.armedAfter (s t : State) (l : Link) : Prop :=
  (∀ m, m ≠ l → t.lif.get m = { s.lif.get m with silence := (s.lif.get m).silence.follow (t.armCondition m) })
    ∧ (t.lif.get l).silence = (s.lif.get l).silence.spoken.follow (t.armCondition l)

/-- An event that may have armed or disarmed links changed no interface in any other way (R146). -/
def State.rearmed (s t : State) : Prop :=
  ∀ m, t.lif.get m = { s.lif.get m with silence := (s.lif.get m).silence.follow (t.armCondition m) }

/-- Nothing changed but the link's interface, and in it nothing of the silence state but what a valid frame does. -/
def State.untouched (s t : State) (l : Link) : Prop := t = { s with lif := t.lif } ∧ s.heardOn t l

/-- A request was refused with this result and changed nothing. -/
def State.refusedWith (s t : State) (l : Link) (r : Result) : Prop := s.untouched t l ∧ t.answered l ⟨r, []⟩

/-- The notice lists after one event has raised these notices (R141). -/
def State.noted (s : State) (ns : List Notice) : PerLink (List NoticeRecord) :=
  (inOrder ns).foldl (raiseOn s.tmb.running) s.ntu

/-- The HOLD notice of an event that leaves this hold-cause set: one if the set changed, none otherwise (R24). -/
def State.holdNews (s : State) (h : HoldSet) : List Notice := if h = s.hold then [] else [.hold h]

/-- NO_TRAIN and TRAIN_FULL stand as the loading train has them (R113), and the loading train is urgent if its fill calls
for it (R117). -/
def State.trainsJudged (t : State) : Prop :=
  t.hold.noTrain = t.spm.loading.isNone ∧ t.hold.trainFull = t.spm.full
    ∧ ∀ r, t.spm.loading = some r → r.isUrgent t.lim.s.urgent = true → r.urgent = true

/-- The TRAIN and TRAIN_URGENT notices of an event that led from `s` to `t`: TRAIN when TRAIN_FULL has begun, TRAIN_URGENT
when the loading train has become urgent and had not been before (R117, R118). -/
def State.trainNews (s t : State) (wasUrgent : Bool) : List Notice :=
  match t.spm.loading with
  | none => []
  | some r =>
    (if t.hold.trainFull && !s.hold.trainFull
      then [Notice.train r.number r.fillPulses (r.capacityPulses.getD 0) t.spm.standby.isSome] else [])
    ++ if r.urgent && !wasUrgent
      then [Notice.trainUrgent r.number r.fillPulses (r.capacityPulses.getD 0) (r.fill t.geo) r.capacity] else []

/-- The loading train has been raised urgent. -/
def State.loadingUrgent (s : State) : Bool := s.spm.loading.any fun r => r.urgent

/-- The hold-cause set becomes `h`, and the stroke state follows it (R26). -/
def State.withHold (s : State) (h : HoldSet) : State :=
  { s with hold := h, stc := { s.stc with phase := s.stc.phase.follow h } }

/-- The part with the lapse of a link other than G over: the sequence watches and the link's member has left the set, which
the stroke state has still to follow (R148 steps 1 and 2). -/
def State.lapseOver (s : State) (l : Link) : State :=
  { s with
    hold := match lapseCause l with | none => s.hold | some c => s.hold.put c false,
    lif := s.lif.set l { s.lif.get l with silence := { (s.lif.get l).silence with phase := .watching } } }

/-- A link's list holds a record of this very notice. -/
def State.tells (t : State) (l : Link) (n : Notice) : Prop := ∃ r ∈ t.ntu.get l, r.notice = n

/-- A forward step of the travel input: TRAV_P leads TRAV_Q (R31). -/
def State.stepsForward (s : State) (p q : Bool) : Bool :=
  [((false, false), true, false), ((true, false), true, true), ((true, true), false, true), ((false, true), false, false)].contains
    ((s.pins.travP, s.pins.travQ), p, q)

/-- A backward step: one phase alone changes, in any other combination (R31). -/
def State.stepsBackward (s : State) (p q : Bool) : Bool :=
  [((true, false), false, false), ((true, true), true, false), ((false, true), true, true), ((false, false), false, true)].contains
    ((s.pins.travP, s.pins.travQ), p, q)

/-- A forward step from the high-water mark that brings h to the end of the open slice, where no end-at-target falls
(R31, R33, R37). -/
def State.reachesBoundary (s : State) (p q : Bool) (k : OpenSlice) (r : StrokeRing) : Prop :=
  s.running = true ∧ s.steady = true ∧ s.stepsForward p q = true ∧ s.stc.phase.sliceOpen = true
    ∧ s.stc.position = s.stc.highWater ∧ s.stc.highWater < 65535 ∧ s.rst.stroke = some r ∧ s.stc.slice = some k
    ∧ s.stc.highWater + 1 = k.index * (s.geo.sliceLength * 10)
    ∧ (r.endAtTarget = true → ∀ n, r.target = some n → s.stc.highWater + 1 ≠ n * 10)

/-- The ring whose stroke has just ended: in BUILD if it has moved, in STROKE while it waits. -/
def State.endedRing (t : State) : Option BuiltRing :=
  if t.stc.phase = .none then t.rst.build else t.rst.stroke.map StrokeRing.toBuilt

/-- The states of the six lines. -/
def State.lineStates (s : State) : Vector LineState 6 := mapAll (fun r : LineRecord => r.state) s.grs

/-- The debts of the six lines. -/
def State.lineDebts (s : State) : Vector Int 6 := mapAll (fun r : LineRecord => r.debt) s.grs

/-- The debts with the demand of the slice `k` in them, which opened this void: the share of each line that is not CLOSED,
taken at the slice's start, with the thousandths of its remainder (R125). -/
def State.chargedDebts (s : State) (k : OpenSlice) (void : Nat) : Vector Int 6 :=
  Vector.ofFn fun i =>
    if s.grs[i].state = .closed then s.grs[i].debt
    else max (-32768) (min 32767 (s.grs[i].debt
      + ((void * (s.entryAt i ((k.index - 1) * s.geo.sliceLength)).share + s.grs[i].remainder) / 1000 : Nat)))

/-- The drain condition, for lines in these states with these debts (R137). -/
def State.settledWith (s : State) (states : Vector LineState 6) (debts : Vector Int 6) : Bool :=
  allLines.all fun i =>
    match states[i] with
    | .opened | .blocked | .probing => decide (debts[i] < s.geo.displacement[i])
    | .closed | .failed => true

/-- The slice that an end of the advance closes as partial: the open slice, if it has any length (R36 step 2). -/
def State.finalSlice (s : State) : Option OpenSlice :=
  if s.stc.phase.sliceOpen then s.stc.slice.filter fun k => k.start < s.stc.highWater else none

/-- The debts the end of the advance leaves: with the demand of its final slice, if it closes one (R36, R41). -/
def State.finalDebts (s : State) (r : StrokeRing) : Vector Int 6 :=
  match s.finalSlice with
  | none => s.lineDebts
  | some k => s.chargedDebts k (r.result.void - s.bal.snapshot.void)

/-- The ring after the end of the advance that led to `t`: with the count of its final slice and the flags of what its close
judged, if it closes one (R88, R91). -/
def State.finalRing (s t : State) (r : StrokeRing) : StrokeRing :=
  if s.finalSlice = none then r
  else { r with
    result := { r.result with sliceCount := min (r.result.sliceCount + 1) 65535 },
    flags := { r.flags with
      overExcavation := r.flags.overExcavation || t.bal.judged.overExcavation,
      underRemoval := r.flags.underRemoval || t.bal.judged.underRemoval } }

/-- What the end of the advance that led from `s` to `t` did to the window and the governor (R36 step 2, R89, R97, R100): the
final slice closed as partial with its index, length and time, the ceiling cut on an excursion of a slice not yet cut and
never raised; no slice of no length, and the slice pulse counts then as they stood (log 28); and the cut-this-slice mark at
no. -/
def State.finalClose (s t : State) (r : StrokeRing) : Prop :=
  (s.finalSlice = none →
    t.bal = s.bal ∧ t.rgv = { s.rgv with cutMark := s.rgv.cutMark && !s.stc.phase.sliceOpen })
  ∧ ∀ k, s.finalSlice = some k → ∃ w, t.bal.window.getLast? = some w
    ∧ w.ring = r.number ∧ w.index = k.index ∧ w.length = s.stc.highWater - k.start ∧ w.time = s.stc.sliceTimer
    ∧ w.partialSlice = true ∧ w.void = r.result.void - s.bal.snapshot.void
    ∧ ∀ excursion, excursion = (t.bal.judged.overExcavation || t.bal.judged.groutShortfall) →
      w.cut = (s.rgv.cutMark || excursion)
      ∧ t.rgv = if excursion && !s.rgv.cutMark then
          { s.rgv with ceiling := s.lim.a.ceilingFloor, threshold := max (s.rgv.ceiling / 2) s.lim.a.ceilingFloor,
                       cutMark := false }
        else { s.rgv with cutMark := false }

/-- A stroke ended in the event that led from `s` to `t`, its ring then being `x`, its lines in these states with these debts
(R19, R40, R138): the shortfalls recorded, GROUT_SHORT set where one reaches its displacement, the lines closed with no debt,
their timers stopped, backoff and probe count at their start, a FAILED line left FAILED, the chains back in the pool, BALANCE,
FACE_STALE and GROUT_DEBT gone, the ring in BUILD if that was empty and in STROKE otherwise; the queue of claims and the shoes
can move only by a grant. Of the balance unit and the governor it says nothing. -/
def State.endsWith (s t : State) (x : StrokeRing) (states : Vector LineState 6) (debts : Vector Int 6) : Prop :=
  t = { s with rst := t.rst, stc := t.stc, bal := t.bal, rgv := t.rgv, grs := t.grs, spm := t.spm, hold := t.hold,
               sht := t.sht, bla := t.bla, ntu := t.ntu, lif := t.lif }
    ∧ t.endedRing = some ⟨x.toRingPlan, { x.result with shortfall := mapAll Int.toNat debts },
        { x.flags with groutShort := x.flags.groutShort
            || allLines.any fun i => decide ((s.geo.displacement[i] : Int) ≤ max debts[i] 0) }, []⟩
    ∧ (s.rst.build = none → t.stc.phase = .none ∧ t.rst.stroke = none
        ∧ ∀ m, t.tells m (.stroke .toBuild x.number))
    ∧ (s.rst.build ≠ none → t.stc.phase = .ended ∧ t.rst.build = s.rst.build
        ∧ (t.rst.stroke.map fun y => y.chains) = some none ∧ ∀ m, t.tells m (.stroke .ended x.number))
    ∧ t.rst.plan = s.rst.plan ∧ t.rst.done = s.rst.done
    ∧ t.rst.free = s.rst.free + (x.chains.map chainCount).getD 0
    ∧ t.stc = { s.stc with phase := t.stc.phase, slice := none, drainTimer := t.stc.drainTimer }
    ∧ t.stc.drainTimer.run = .stopped
    ∧ (∀ i : LineIndex, t.grs[i].debt = 0 ∧ t.grs[i].remainder = 0 ∧ t.grs[i].valve = false
        ∧ t.grs[i].pressure = s.grs[i].pressure
        ∧ if states[i] = .failed then
            t.grs[i].state = .failed
            ∧ (s.grs[i].state = .failed → t.grs[i].backoff = s.grs[i].backoff ∧ t.grs[i].probes = s.grs[i].probes)
          else t.grs[i].state = .closed ∧ t.grs[i].backoff = s.lim.g.backoff ∧ t.grs[i].probes = 0
            ∧ t.grs[i].noPulse.run = .stopped ∧ t.grs[i].backoffTimer.run = .stopped
            ∧ t.grs[i].window.run = .stopped)
    ∧ t.spm = { s.spm with stale := { s.spm.stale with run := .stopped } }
    ∧ t.hold = { s.hold with balance := false, faceStale := false, groutDebt := false }
    ∧ ((∀ c ∈ s.bla.queue, c.state ≠ .waiting) → t.sht = s.sht ∧ t.bla = s.bla)

/-- The stroke of the ring `r` ended in the event that led from `s` to `t`, its flags being `flags` but for GROUT_SHORT, and
nothing happened before its end (R19, R40, R138). -/
def State.endsTo (s t : State) (r : StrokeRing) (flags : RingFlags) : Prop :=
  s.endsWith t { r with flags := flags } s.lineStates s.lineDebts ∧ t.bal = s.bal ∧ t.rgv = s.rgv

/-- No claim of the queue waits for a grant. -/
def State.nothingWaits (s : State) : Bool := s.bla.queue.all fun c => c.state ≠ .waiting

/-- No claim of the queue has still to follow the states its shoes have reached (R66, R69, R72). -/
def State.claimsFollow (s : State) : Bool :=
  s.bla.queue.all fun c =>
    match c.state with
    | .retracting => !c.shoes.all fun i => s.sht[i].state = .clear
    | .clamping => !c.shoes.all fun i => s.sht[i].state = .bearing
    | .returning => !c.shoes.all fun i => s.sht[i].state = .bearing || s.sht[i].state = .fault
    | .waiting | .clear | .faulted => true

/-- BALANCE stands as the bearing counts and the stroke have it (R57). -/
def State.balanceKept (s : State) : Bool := s.hold.balance = (s.stc.phase.isOpen && !s.meetsAdvance)

/-- The BALANCE notice of an event that led from `s` to `t`: one when BALANCE has begun (R57). -/
def State.balanceNews (s t : State) : List Notice :=
  if t.hold.balance && !s.hold.balance then
    [.balance (quadCount t.sht [] 0) (quadCount t.sht [] 1) (quadCount t.sht [] 2) (quadCount t.sht [] 3)
      (totalCount t.sht []) t.lim.a.quadAdvance t.lim.a.totalAdvance]
  else []

/-- A shoe's record in FAULT, its owner kept and its timer stopped (R51). -/
def ShoeRecord.faulted (r : ShoeRecord) (why : FaultReason) : ShoeRecord :=
  { r with state := .fault, reason := some why, timer := { r.timer with run := .stopped } }

/-- SHOE_FAULT_SEEN set in the rings of STROKE and BUILD (R51). -/
def RingStore.shoeFaultSeen (r : RingStore) : RingStore :=
  { r with stroke := r.stroke.map fun x => { x with flags := { x.flags with shoeFault := true } },
           build := r.build.map fun x => { x with flags := { x.flags with shoeFault := true } } }

/-- An event led from `s` to `t` by giving shoe `i` the record `r` and, if the shoe entered FAULT, the notice `news`: what
follows it (R51, R55, R57, R64, R66, R69, R70, R72). Claims, grants, BALANCE and the rings may follow; with no claim waiting
no other shoe moves, and with the queue empty nothing else changes at all. -/
def State.shoeStep (s t : State) (i : ShoeIndex) (r : ShoeRecord) (news : List Notice) : Prop :=
  t = { s with
      pins := t.pins, sht := t.sht, bla := t.bla, rst := t.rst, hold := { s.hold with balance := t.hold.balance },
      stc := { s.stc with phase := t.stc.phase }, ntu := t.ntu, lif := t.lif }
    ∧ t.balanceKept = true
    ∧ (s.stc.phase.isOpen = true → t.stc.phase = s.stc.phase.follow t.hold)
    ∧ (∀ n ∈ news, t.tells .advance n ∧ t.tells .erector n)
    ∧ (s.nothingWaits = true → ∀ j : ShoeIndex,
        { t.sht[j] with owner := none } = { (if j = i then r else s.sht[j]) with owner := none })
    ∧ (s.bla.queue = [] →
        t = { s.withHold { s.hold with balance := t.hold.balance } with
          pins := t.pins, sht := s.sht.set i.val r i.isLt, rst := if news = [] then s.rst else s.rst.shoeFaultSeen,
          ntu := s.noted (news ++ s.balanceNews t ++ s.holdNews t.hold), lif := t.lif })

/-- A shoe that the claim `c` owns entered FAULT in the event that led to `t`: a claim that is active, but not RETURNING, is
FAULTED then, and Link E is told of the shoe (R70, R74). -/
def State.claimFaulted (t : State) (c : Claim) (i : ShoeIndex) : Prop :=
  c.state ≠ .waiting → c.state ≠ .returning →
    ({ c with state := .faulted } : Claim) ∈ t.bla.queue ∧ t.tells .erector (.claim c.id (.faulted i) c.kind c.piece)

/-- The claim `c` left the queue as RETURNED in the event that led to `t`, these shoes of its set in FAULT (R72, R73). -/
def State.claimReturned (t : State) (c : Claim) (faulty : List ShoeIndex) : Prop :=
  (∀ d ∈ t.bla.queue, d.id ≠ c.id) ∧ (∀ j ∈ c.shoes, t.sht[j].owner ≠ some c.id)
    ∧ t.tells .erector (.claim c.id (.returned faulty) c.kind c.piece)

/-- The record of a shoe that enters EXTENDING, judged against its inputs at once (R47). -/
def State.extended (s : State) (i : ShoeIndex) : ShoeRecord :=
  let r := s.sht[i]
  if s.pins.seated[i] then
    if s.pins.retracted[i] then
      ⟨.fault, some .sensorConflict, r.owner, ⟨.stopped, 0⟩⟩
    else ⟨.bearing, none, r.owner, ⟨.stopped, 0⟩⟩
  else ⟨.extending, none, r.owner, ⟨if s.pins.estop then .paused else .running, 0⟩⟩

/-- A claim of this kind for this piece was accepted in the event that led from `s` to `t` (R60, R61, R62), the shoe set in its
answer a counted list (log 15): the first id from
the counter that no claim holds, the counter past it, the claim at the tail; granted at once or waiting, and if no claim
waited before and the grant's conditions fail, nothing else changed. -/
def State.queuedClaim (s t : State) (kind : ClaimKind) (q : Piece) : Prop :=
  ∃ id : ClaimId, (∀ c ∈ s.bla.queue, c.id ≠ id)
    ∧ (∀ k : Fin 8, k.val < (id - s.bla.counter).val → ∃ c ∈ s.bla.queue, c.id = s.bla.counter + k)
    ∧ t.bla.counter = id + 1
    ∧ (t.bla.queue.map fun c => { c with state := .waiting })
      = (s.bla.queue.map fun c => { c with state := .waiting }) ++ [⟨id, kind, q.number, q.first, q.span, .waiting⟩]
    ∧ t = { s with bla := t.bla, sht := t.sht, ntu := t.ntu, lif := t.lif }
    ∧ s.armedAfter t .erector
    ∧ (∃ c ∈ t.bla.queue, c.id = id ∧ t.answered .erector
        ⟨.accepted, num2 id.val ++ shoeList (spanShoes q.first q.span) ++ num1 c.state.ordinal⟩)
    ∧ (s.nothingWaits = true → s.waitReason ⟨id, kind, q.number, q.first, q.span, .waiting⟩ ≠ none →
        t.bla.queue = s.bla.queue ++ [⟨id, kind, q.number, q.first, q.span, .waiting⟩] ∧ t.sht = s.sht ∧ t.ntu = s.ntu)

/-- A train that enters LOADING with the unassigned pulses is urgent (R115, R117). -/
def State.urgentLoad (s : State) (r : Train) : Bool :=
  ({ r with fillPulses := min s.spm.unassigned 16777215 } : Train).isUrgent s.lim.s.urgent

/-- The record of line `i` once it has been judged blocked under this pressure, with this first backoff
(R131 steps 1 to 4). -/
def State.blockedRecord (s : State) (i : LineIndex) (pressure backoff : Nat) : LineRecord :=
  { s.grs[i] with
    state := .blocked, valve := false, pressure := some pressure, noPulse := { s.grs[i].noPulse with run := .stopped },
    backoff := backoff, probes := 0, backoffTimer := ⟨if s.pins.estop then .paused else .running, 0⟩ }

/-- Line `i` was judged blocked under this pressure and at this ceiling in the event that led from `s` to `t` (R131). -/
def State.blockedAt (s t : State) (i : LineIndex) (pressure ceiling : Nat) : Prop :=
  t.grs[i] = s.blockedRecord i pressure s.lim.g.backoff
    ∧ t.tells .grout (.line i (.blocked pressure ceiling s.grs[i].debt s.lim.g.backoff))

/-- The conditions of a blockage but for the time: the valve of an OPEN line is open and its last pressure is at or above this
ceiling (R131). -/
def State.pressed (s : State) (i : LineIndex) (ceiling : Nat) : Bool :=
  s.grs[i].state = .opened && s.grs[i].valve && s.grs[i].pressure.any fun p => decide (ceiling ≤ p)

/-- No timer of the part has reached its limit with its expiry still to be taken. -/
def State.noneDue (s : State) : Bool :=
  allShoes.all (fun i => !s.moveDue i)
    && allLines.all (fun i => !s.lineBlocks i && !s.backoffDue i && !s.windowDue i)
    && !s.drainDue && !(s.stc.phase = .draining && s.drained) && !(s.staleNow && !s.hold.faceStale)
    && allLinks.all fun l => !s.silenceDue l && !s.checkDue l

/-! ## The sections of a ring slot's READ (R159) -/

/-- The PLAN section: the four marks, the piece plan or absent, the target or absent, end-at-target, the face plan, the chains
or absent. -/
def RingPlan.sectionBytes (r : RingPlan) (chains : Option Chains) : List Byte :=
  num1 r.marks.pieces.ordinal ++ num1 r.marks.stroke.ordinal ++ num1 r.marks.face.ordinal ++ num1 r.marks.grout.ordinal
  ++ (match r.pieces with
    | none => [0#8]
    | some ps => [1#8] ++ num2 ps.length ++ num1 ps.length
      ++ ps.flatMap fun p => num2 p.number ++ num2 p.first.val ++ num2 p.span)
  ++ optional num2 r.target ++ choice r.endAtTarget
  ++ num2 r.face.low ++ num2 r.face.high ++ num2 r.face.margin ++ num2 r.face.fill ++ num2 r.face.bulking
  ++ match chains with
    | none => [0#8]
    | some v => [1#8] ++ v.toList.flatMap fun chain =>
      num1 chain.length ++ chain.flatMap fun g => num2 g.start ++ num2 g.share ++ num2 g.ceiling

/-- A stroke result in the order of R5. -/
def StrokeResult.sectionBytes (x : StrokeResult) : List Byte :=
  num2 x.finalTravel ++ num2 x.highWater ++ num2 x.sliceCount ++ num4 x.excavated ++ num4 x.expected ++ num4 x.removed
  ++ num4 x.void ++ x.grout.toList.flatMap num4 ++ num4 x.groutTotal ++ x.shortfall.toList.flatMap num2
  ++ num4 x.timeAdvancing ++ num4 x.timeHeld

/-- The seven flags in the order of R6. -/
def RingFlags.sectionBytes (f : RingFlags) : List Byte :=
  [f.incompleteStroke, f.groutShort, f.overExcavation, f.underRemoval, f.faceExcursion, f.shoeFault,
    f.overspeed].flatMap choice

/-- The STACK section: the stack count, then the stack bottom first (R77). -/
def stackBytes (stack : List StackEntry) : List Byte :=
  [1#8] ++ num2 stack.length ++ num1 stack.length ++ stack.flatMap fun e => num2 e.piece ++ num2 e.travel

/-! ## The laws of the device -/

/-- No notice list holds two records with the same kind and subject (R141). -/
def State.noticeLaw (s : State) : Prop := ∀ l, ((s.ntu.get l).map fun r => r.notice.key).Nodup

/-- The governor's limits lie in their ranges, the ceiling and the threshold between C_floor and C_max (R96, R163), and the
cut-this-slice mark is no while no slice is open (R97). -/
def State.governorLaw (s : State) : Prop :=
  10 ≤ s.lim.a.ceilingMax ∧ s.lim.a.ceilingMax ≤ 150 ∧ 5 ≤ s.lim.a.ceilingFloor
    ∧ s.lim.a.ceilingFloor ≤ s.lim.a.ceilingMax
    ∧ s.lim.a.ceilingFloor ≤ s.rgv.ceiling ∧ s.rgv.ceiling ≤ s.lim.a.ceilingMax
    ∧ s.lim.a.ceilingFloor ≤ s.rgv.threshold ∧ s.rgv.threshold ≤ s.lim.a.ceilingMax
    ∧ (s.stc.phase.sliceOpen = false → s.rgv.cutMark = false)

/-- A valve is open exactly while its five conditions hold (R126). -/
def State.valveLaw (s : State) : Prop :=
  ∀ i : LineIndex, s.grs[i].valve = true ↔
    (s.grs[i].state = .opened ∨ s.grs[i].state = .probing) ∧ 0 < s.grs[i].debt ∧ s.stc.phase.isOpen = true
      ∧ s.pins.estop = false ∧ s.hold.groutLapse = false

/-- NO_TRAIN is present exactly while no train is loading, TRAIN_FULL exactly while the loading train's fill pulses have
reached its capacity pulses (R113). -/
def State.trainLaw (s : State) : Prop :=
  (s.hold.noTrain = true ↔ s.spm.loading = none)
    ∧ (s.hold.trainFull = true ↔ ∃ t n, s.spm.loading = some t ∧ t.capacityPulses = some n ∧ n ≤ t.fillPulses)

/-- What keeps the thrust permit lawful (R26, R27, R57): the stroke state follows the set, BALANCE is present exactly
while an open stroke's counts fall short, ESTOP is present while ESTOP_N is asserted, and the stroke state is NONE exactly
while STROKE is empty (R22) and in a part held in reset (R166). -/
def State.permitLaw (s : State) : Prop :=
  s.steady = true ∧ (s.hold.balance = true ↔ s.stc.phase.isOpen = true ∧ s.meetsAdvance = false)
    ∧ (s.running = true → s.pins.estop = true → s.hold.estop = true)
    ∧ (s.stc.phase = .none ↔ s.rst.stroke = none) ∧ (s.running = false → s.stc.phase = .none)

/-- The grout entries of the PLAN ring's chains. -/
def RingStore.planEntries (r : RingStore) : Nat := (r.plan.map fun p => chainCount p.chains).getD 0

/-- The grout entries of the STROKE ring's chains. -/
def RingStore.strokeEntries (r : RingStore) : Nat := ((r.stroke.bind fun t => t.chains).map chainCount).getD 0

/-- Every chain of six is in strictly ascending order of `from` and holds at most four entries (R12). -/
def chainsLawful (v : Chains) : Prop :=
  ∀ i : LineIndex, v[i].length ≤ Config.chainEntries ∧ v[i].Pairwise fun a b => a.start < b.start

/-- The pool of 32 entries and what draws on it (R12, R19): free entries and those of the PLAN and STROKE chains number
32, no ring has more than 16, a chain is ordered, and the STROKE ring has its chains exactly while its stroke is open. -/
def State.poolLaw (s : State) : Prop :=
  s.rst.free + s.rst.planEntries + s.rst.strokeEntries = Config.poolEntries
    ∧ s.rst.planEntries ≤ Config.ringEntries ∧ s.rst.strokeEntries ≤ Config.ringEntries
    ∧ (∀ p, s.rst.plan = some p → chainsLawful p.chains)
    ∧ (∀ r, s.rst.stroke = some r → (r.chains.isSome = s.stc.phase.isOpen))
    ∧ (s.rst.stroke = none → s.stc.phase.isOpen = false)

/-- The ring numbers in the occupied slots, DONE to PLAN. -/
def RingStore.numbers (r : RingStore) : List Nat :=
  (r.done.map fun b => b.number).toList ++ (r.build.map fun b => b.number).toList
    ++ (r.stroke.map fun t => t.number).toList ++ (r.plan.map fun p => p.number).toList

/-- Of DONE, BUILD, STROKE and PLAN the occupied slots hold consecutive ring numbers, PLAN is occupied exactly while the
part is configured, and no number is above 65,535 (R2, R21). -/
def State.numberLaw (s : State) : Prop :=
  (s.rst.numbers.IsChain fun a b => b = a + 1) ∧ (s.configured = s.rst.plan.isSome)
    ∧ ∀ n ∈ s.rst.numbers, n ≤ 65535

/-- The store's two laws together. -/
def State.storeLaw (s : State) : Prop := s.poolLaw ∧ s.numberLaw

/-- The three laws of the outputs together. -/
def State.outputLaw (s : State) : Prop := s.permitLaw ∧ s.valveLaw ∧ s.trainLaw

/-- A link is armed exactly while its condition holds (R146), and its lapse keeps its member in the set (R148). -/
def State.linkLaw (s : State) : Prop :=
  ∀ l, (s.lif.get l).silence.armed = s.armCondition l
    ∧ ∀ c, lapseCause l = some c → s.hold.has c = (s.lif.get l).silence.lapsed

/-- The claim queue holds at most four claims with distinct ids and distinct pieces, at most two of them active, a
WITHDRAW claim alone, and none while BUILD is empty (R59). -/
def State.queueLaw (s : State) : Prop :=
  s.bla.queue.length ≤ Config.queueClaims ∧ (s.bla.queue.map fun c => c.id).Nodup
    ∧ (s.bla.queue.map fun c => c.piece).Nodup ∧ (s.bla.queue.filter Claim.active).length ≤ Config.activeClaims
    ∧ ((∃ c ∈ s.bla.queue, c.kind = .withdraw) → s.bla.queue.length = 1)
    ∧ (s.rst.build = none → s.bla.queue = [])

/-- Every shoe in RETRACTING or CLEAR belongs to an active claim of the queue (R53). -/
def State.ownerLaw (s : State) : Prop :=
  ∀ i : ShoeIndex, s.sht[i].state = .retracting ∨ s.sht[i].state = .clear →
    ∃ c ∈ s.bla.queue, s.sht[i].owner = some c.id ∧ i ∈ c.shoes ∧ c.active = true

/-- Every planned piece and every claim spans a shoe (R3, R59). -/
def State.spanLaw (s : State) : Prop :=
  (∀ c ∈ s.bla.queue, 1 ≤ c.span)
    ∧ (∀ p, s.rst.plan = some p → ∀ q ∈ p.pieces.getD [], 1 ≤ q.span)
    ∧ (∀ r, s.rst.stroke = some r → ∀ q ∈ r.pieces.getD [], 1 ≤ q.span)
    ∧ ∀ b, s.rst.build = some b → ∀ q ∈ b.pieces.getD [], 1 ≤ q.span

/-- The BUILD ring's stack holds distinct planned pieces, the key only on top and only above all the others; a PLACE claim is
for a planned piece that is not on it, and the key is claimed alone, with all the others on it (R77). -/
def State.stackLaw (s : State) : Prop :=
  ∀ b, s.rst.build = some b →
    (b.stack.map fun e => e.piece).Nodup
    ∧ (∀ e ∈ b.stack, ∃ q ∈ b.pieces.getD [], q.number = e.piece)
    ∧ (∀ e ∈ b.stack.dropLast, e.piece ≠ b.count)
    ∧ ((∃ e ∈ b.stack, e.piece = b.count) → b.othersPlaced = true)
    ∧ ∀ c ∈ s.bla.queue, c.kind = .place →
      b.onStack c.piece = false ∧ (∃ q ∈ b.pieces.getD [], q.number = c.piece)
        ∧ (c.piece = b.count → b.othersPlaced = true ∧ s.bla.queue.length = 1)

/-- The laws of the build arbiter together. -/
def State.buildLaw (s : State) : Prop :=
  s.queueLaw ∧ s.claimsFollow = true ∧ s.ownerLaw ∧ s.spanLaw ∧ s.stackLaw

/-- The STROKE ring's excavated volume is that of its high-water mark, which is the stroke controller's own while the
stroke is open; the travel position lies at or below it (R31, R85). -/
def State.travelLaw (s : State) : Prop :=
  s.stc.position ≤ s.stc.highWater ∧ s.stc.highWater ≤ 65535
    ∧ ∀ r, s.rst.stroke = some r →
        r.result.excavated = min 4294967295 (s.geo.faceArea * r.result.highWater / 1000000)
          ∧ (s.stc.phase.isOpen = true → r.result.highWater = s.stc.highWater ∧ r.result.finalTravel = s.stc.position)

/-- A ring without GROUT_SHORT has every shortfall below the line's displacement (R138). -/
def State.shortfallsCovered (s : State) (flags : RingFlags) (result : StrokeResult) : Prop :=
  flags.groutShort = false → ∀ i : LineIndex, result.shortfall[i] < s.geo.displacement[i]

/-- The laws of the ring records together: travel, the shortfalls of every ring whose stroke has ended, and a ring in DONE
complete (R77). The phase is NONE while STROKE is empty (R22). -/
def State.recordLaw (s : State) : Prop :=
  s.travelLaw
    ∧ (∀ r, s.rst.stroke = some r → s.stc.phase = .ended → s.shortfallsCovered r.flags r.result)
    ∧ (∀ b, s.rst.build = some b → s.shortfallsCovered b.flags b.result)
    ∧ ∀ b, s.rst.done = some b → s.shortfallsCovered b.flags b.result ∧ b.complete = true

end Sys2Proof.Machine
end

