-- ==== Sys2Proof/Certificates/Slice0/Obligations.lean ====
section
/-! DEFINITION. The statements for the provers, in the order of the spec's chapters: the machine, the links, the ring store,
the stroke, the shoes, the claims, the volumes, the governor, face and trains, grout, and the invariants. -/

open Sys2Proof Sys2Proof.Machine

/-! ## The machine -/

/-- The command at the front of the queue is the one a step runs, with the queue's rest; an empty queue idles. The queue
and its idling are the model's own (log 4). -/
def Obligations.StepTakesFrontCommand : Prop :=
  ∀ (s : State) (i : Instr) (rest : List Instr),
    step { s with pending := i :: rest } = exec i { s with pending := rest }
      ∧ step { s with pending := [] } = .next { s with pending := [] }

/-- Every command that can reach the part has a next state and leaves the queue alone; a term that no frame can be is
refused as ill-formed (log 6). -/
def Obligations.EveryCommandCompletes : Prop :=
  ∀ (s : State) (i : Instr),
    if i.wellFormed then ∃ t, exec i s = .next t ∧ t.pending = s.pending else exec i s = .refused .illFormed

/-- Section 11.4: from power-on or an asserted RESET_N the part is held in reset, in whatever state it stood; every drive is
LOCK, the permit off, every valve closed, the lists empty, and the cause is RESET_PIN only when the part was not already
held. While it is held every command but POWER_ON, RESET_N_ASSERT and RESET_END changes nothing but the levels of the input
lines (that the levels are followed is the model's choice, log 8). -/
def Obligations.ResetHoldsThePart : Prop :=
  (∀ (s : State),
     (∃ t, exec .powerOn s = .next t ∧ t.tmb.held = some .powerOn ∧ t.pins = s.pins ∧ t.pending = s.pending
       ∧ t.configured = false ∧ t.permit = false ∧ (∀ i, t.drive i = .lock) ∧ (∀ i, t.valve i = false)
       ∧ ∀ l, t.ntu.get l = [] ∧ t.attention l = false ∧ t.receives l = false ∧ (t.lif.get l).response = none)
     ∧ ∃ t, exec .resetNAssert s = .next t
       ∧ t.tmb.held = some (match s.tmb.held with | none => .resetPin | some cause => cause)
       ∧ t.pins = { s.pins with resetN := true } ∧ t.pending = s.pending
       ∧ t.configured = false ∧ t.permit = false ∧ (∀ i, t.drive i = .lock) ∧ (∀ i, t.valve i = false)
       ∧ ∀ l, t.ntu.get l = [] ∧ t.attention l = false ∧ t.receives l = false ∧ (t.lif.get l).response = none)
  ∧ ∀ (s : State) (i : Instr), s.running = false → i.wellFormed = true → i ≠ .powerOn → i ≠ .resetNAssert → i ≠ .resetEnd →
      ∃ t, exec i s = .next t ∧ t = { s with pins := t.pins }
        ∧ t.pins = (match i with
          | .estopAssert => { s.pins with estop := true }
          | .estopRelease => { s.pins with estop := false }
          | .travelStep p q => { s.pins with travP := p, travQ := q }
          | .seatedAsserts i => { s.pins with seated := s.pins.seated.set i.val true i.isLt }
          | .seatedDrops i => { s.pins with seated := s.pins.seated.set i.val false i.isLt }
          | .retractedLimitChange i b => { s.pins with retracted := s.pins.retracted.set i.val b i.isLt }
          | .clockFallback => { s.pins with refclk := false }
          | .clockRestored => { s.pins with refclk := true }
          | _ => s.pins)

/-- Sections 2.8, 3.6, 4.10, 5.7, 6.6, 7.7, 8.7, 9.4 and 11.4: what the end of a reset leaves, from the levels of the input
lines; without a reset the command is void (log 8). The reset state is that of a power-on with the levels of log 1 and the
elapsed times of log 26. -/
def Obligations.ResetEndFormsState : Prop :=
  (∀ (s : State), s.running = true → exec .resetEnd s = .next s)
  ∧ (∀ (s : State) (cause : ResetCause), s.tmb.held = some cause →
    ∃ t, exec .resetEnd s = .next t ∧ t.pending = s.pending ∧ t.pins = { s.pins with resetN := false }
      ∧ t.tmb = { running := 0, fallback := !s.pins.refclk, held := none, cause := cause }
      ∧ t.configured = false ∧ t.planNumber = 0 ∧ (t.geo.faceArea, t.geo.voidArea) = (0, 0)
      ∧ t.rst = { plan := none, stroke := none, build := none, done := none, free := 32 }
      ∧ t.hold = { HoldSet.empty with noTrain := true, estop := s.pins.estop }
      ∧ t.stc.phase = .none ∧ t.stc.position = 0 ∧ t.stc.highWater = 0 ∧ t.stc.rollbackArmed = true ∧ t.stc.slice = none
      ∧ t.stc.drainTimer.run = .stopped
      ∧ (∀ i : ShoeIndex, t.sht[i].owner = none ∧ t.sht[i].timer.run = .stopped
        ∧ (t.sht[i].state, t.sht[i].reason) =
          (if s.pins.seated[i] then
            if s.pins.retracted[i] then (.fault, some .sensorConflict) else (.bearing, none)
           else (.fault, some .moveTimeout)))
      ∧ t.bla = { queue := [], counter := 0 }
      ∧ (t.bal.screw, t.bal.idle, t.bal.window) = (0, 0, [])
      ∧ (t.rgv.ceiling, t.rgv.threshold, t.rgv.overspeeds, t.rgv.cutMark) = (10, 80, 0, false)
      ∧ (t.spm.pressure, t.spm.age, t.spm.unassigned, t.spm.loading, t.spm.standby) = (none, none, 0, none, none)
      ∧ (∀ i : LineIndex, t.grs[i].state = .closed ∧ t.grs[i].debt = 0 ∧ t.grs[i].remainder = 0
        ∧ t.grs[i].pressure = none ∧ t.grs[i].valve = false ∧ t.grs[i].backoff = 4000 ∧ t.grs[i].probes = 0)
      ∧ t.lim.a = ⟨80, 10, 5, 100, 1, 11, 1, 6, 30000, 30000, 1000⟩ ∧ t.lim.e = ⟨1000⟩
      ∧ t.lim.g = ⟨5000, 4000, 3000, 2000, 900, 120000, 1000⟩ ∧ t.lim.s = ⟨1080, 920, 900, 2000, 1000⟩
      ∧ (∀ l, t.ntu.get l = [⟨.restart cause, 0, 0, 0⟩] ∧ t.attention l = true
        ∧ (t.lif.get l).phase = .released ∧ (t.lif.get l).silence.armed = false
        ∧ (t.lif.get l).silence.phase = .watching ∧ (t.lif.get l).silence.checks = 0
        ∧ (t.lif.get l).silence.silenceTimer.run = .stopped ∧ (t.lif.get l).silence.checkTimer.run = .stopped)
      ∧ (cause = .powerOn → s.pins = Pins.initial → t = { State.reset with pending := s.pending }))

/-- Sections 11.5, 2.6 and 9.1: a tick of a part with no expiry waiting adds one ms to the running time, which wraps, to the
stroke's time, and to every timer that runs, and changes nothing else. The fall-over of the reference clock and its return
change the fallback flag, raise no notice and change no hold cause (that the flag clears at once is the model's choice,
log 23). -/
def Obligations.TimebaseTicksAndFallsOver : Prop :=
  ∀ (s : State), s.running = true → s.steady = true →
    exec .clockFallback s
      = .next { s with pins := { s.pins with refclk := false }, tmb := { s.tmb with fallback := true } }
    ∧ exec .clockRestored s
      = .next { s with pins := { s.pins with refclk := true }, tmb := { s.tmb with fallback := false } }
    ∧ (s.noneDue = true → ∃ t, exec .timebaseTick s = .next t
      ∧ t = { s with tmb := t.tmb, rst := t.rst, stc := t.stc, sht := t.sht, spm := t.spm, grs := t.grs, lif := t.lif }
      ∧ t.tmb = { s.tmb with running := (s.tmb.running + 1) % 4294967296 }
      ∧ t.rst = { s.rst with stroke := s.rst.stroke.map fun r =>
          { r with result := { r.result with
              timeAdvancing := if s.stc.phase = .advancing then min (r.result.timeAdvancing + 1) 4294967295
                else r.result.timeAdvancing,
              timeHeld := if s.stc.phase = .held then min (r.result.timeHeld + 1) 4294967295
                else r.result.timeHeld } } }
      ∧ t.stc = { s.stc with
          sliceTimer := if s.stc.phase = .advancing then min (s.stc.sliceTimer + 1) 3600000 else s.stc.sliceTimer,
          drainTimer := t.stc.drainTimer }
      ∧ t.stc.drainTimer = s.stc.drainTimer.tick 600000
      ∧ (∀ i : ShoeIndex, t.sht[i] = { s.sht[i] with timer := s.sht[i].timer.tick 120000 })
      ∧ t.spm = { s.spm with age := s.spm.age.map fun n => min (n + 1) 4294967295, stale := s.spm.stale.tick 4294967295 }
      ∧ (∀ i : LineIndex, t.grs[i] = { s.grs[i] with
          noPulse := s.grs[i].noPulse.tick 4294967295, backoffTimer := s.grs[i].backoffTimer.tick 60000,
          window := s.grs[i].window.tick 10000 })
      ∧ ∀ l, t.lif.get l = { s.lif.get l with silence :=
          { (s.lif.get l).silence with silenceTimer := (s.lif.get l).silence.silenceTimer.tick 5000,
                                       checkTimer := (s.lif.get l).silence.checkTimer.tick 1000 } })

/-! ## The links -/

/-- Section 10.1: a select period starts RECEIVING with an empty frame assembler, carries one transaction, and ends at the
release of select in whatever phase it stands, what was not sent dropped. A frame taken in RECEIVING, valid or not, is
answered and ends RECEIVING; any frame that follows in the same period changes nothing. The data output is undriven while
the select is released, 00h while RECEIVING, and after it 00h for two bytes, the bytes of the response, and 00h again. How
many bytes have been clocked is an argument and no state, a frame taken with its select released stands for a whole period
and is read from the record of the response formed last, and a select asserted twice is void (all log 3). -/
def Obligations.SelectPeriodCarriesOneTransaction : Prop :=
  ∀ (s : State) (l : Link), s.running = true →
    (s.steady = true →
      exec (.selectAssert l) s
        = .next (if (s.lif.get l).phase = .released
          then { s with lif := s.lif.set l ⟨.receiving, [], none, (s.lif.get l).last, (s.lif.get l).silence⟩ } else s)
      ∧ exec (.selectRelease l) s
        = .next { s with lif := s.lif.set l ⟨.released, [], none, (s.lif.get l).last, (s.lif.get l).silence⟩ })
    ∧ (∀ (n : Nat), ((s.lif.get l).phase = .released → s.dataOut l n = none)
        ∧ ((s.lif.get l).phase = .receiving → s.dataOut l n = some 0#8))
    ∧ ∀ (i : Instr), i.wellFormed = true → i.frameLink = some l →
      ∃ t, exec i s = .next t
        ∧ ((s.lif.get l).phase = .receiving →
          (t.lif.get l).phase = .answered ∧ (t.lif.get l).response = (t.lif.get l).last
          ∧ ∃ r, (t.lif.get l).response = some r ∧ (r.summary.length = 9 → r.bytes.length = 12 + r.body.length)
            ∧ ∀ (n : Nat), t.dataOut l n = some (if n < 2 then 0#8 else (r.bytes[n - 2]?).getD 0#8))
        ∧ ((s.lif.get l).phase = .answered → t = s)
        ∧ ((s.lif.get l).phase = .released →
          (t.lif.get l).phase = .released ∧ (t.lif.get l).response = none ∧ (t.lif.get l).last ≠ none)

/-- Sections 10.2 and 10.3. A frame whose CRC byte is wrong, and a length byte above 56, are not acted on: nothing changes but
the link's select period, not even its silence sequence, and the response is FRAME_ERROR with no body. Of valid frames, a
code that is not in the catalogue, a request on a link that does not allow it, a request outside the eight while unconfigured,
and a body length the request does not allow are refused in this order, and change nothing but the silence state. -/
def Obligations.FramesRefusedInOrder : Prop :=
  (∀ (s : State) (l : Link) (code : Byte), s.receives l = true →
     (∀ (body : List Byte) (crc : Byte), body.length ≤ 56 →
       crc ≠ crc8 (code :: BitVec.ofNat 8 body.length :: body) →
       ∃ t, exec (.frameError l code body crc) s = .next t ∧ t = { s with lif := t.lif }
         ∧ (∀ m, m ≠ l → t.lif.get m = s.lif.get m) ∧ (t.lif.get l).silence = (s.lif.get l).silence
         ∧ t.answered l ⟨.frameError, []⟩)
     ∧ ∀ (length : Byte), 56 < length.toNat →
       ∃ t, exec (.frameLengthError l code length) s = .next t ∧ t = { s with lif := t.lif }
         ∧ (∀ m, m ≠ l → t.lif.get m = s.lif.get m) ∧ (t.lif.get l).silence = (s.lif.get l).silence
         ∧ t.answered l ⟨.frameError, []⟩)
  ∧ ∀ (s : State) (l : Link) (body : List Byte), s.hears l = true → body.length ≤ 56 →
      (∀ code : Byte, (∀ q : Request, q.code ≠ code) →
        ∃ t, exec (.unknownRequest l code body) s = .next t ∧ s.refusedWith t l .unknown)
      ∧ ∀ q : Request, ∃ t, exec (q.command l body) s = .next t
        ∧ (q.allowedOn l = false → s.refusedWith t l .notPermitted)
        ∧ (q.allowedOn l = true → s.configured = false → q.early = false → s.refusedWith t l .wrongState)
        ∧ (q.allowedOn l = true → (s.configured = true ∨ q.early = true) → q.lengthOK l body.length = false →
          s.refusedWith t l .badValue)

/-- Section 9.3: a valid frame, whatever its request and its result, sets its link's sequence to its start: WATCHING, no
check, the check timer stopped, the silence timer at 0 (also of a link that is not armed, log 9) and running if it is armed.
From a lapse, moreover, the link's member leaves the hold-cause set and every other list tells LAPSE ENDED, the sender's own
too where its request takes nothing from it. The request itself acts as on the part with the lapse already over: on Links A,
E and S it has the same result, the same body but for the record TAKE_NOTICE takes, and leaves the same state but for the
notices. On Link G, shown on a frame of no effect of its own, the valves are judged and the probe windows run on unless
ESTOP_N is asserted, where no window stands at its limit and no drain is due. -/
def Obligations.ValidFrameEndsLapse : Prop :=
  (∀ (s : State) (l : Link) (i : Instr), i.wellFormed = true → i.isValidFrame = true → i.frameLink = some l →
    s.receives l = true →
    ∃ t, exec i s = .next t
      ∧ (t.lif.get l).silence.phase = .watching ∧ (t.lif.get l).silence.checks = 0
      ∧ (t.lif.get l).silence.checkTimer.run = .stopped
      ∧ (t.lif.get l).silence.silenceTimer.elapsed = 0
      ∧ ((t.lif.get l).silence.armed = true → (t.lif.get l).silence.silenceTimer = ⟨.running, 0⟩)
      ∧ ((s.lif.get l).silence.phase = .lapsed →
        (∀ c, lapseCause l = some c → t.hold.has c = false)
        ∧ (∀ m, m ≠ l → t.tells m (.lapse l false))
        ∧ ((∀ body, i ≠ .takeNotice l body ∧ i ≠ .linkClear l body) → t.tells l (.lapse l false))
        ∧ (l ≠ .grout → ∃ u, exec i (s.lapseOver l) = .next u
          ∧ t = { u with ntu := t.ntu, lif := t.lif }
          ∧ (∀ m, (t.lif.get m).silence = (u.lif.get m).silence ∧ (t.lif.get m).phase = (u.lif.get m).phase)
          ∧ (t.lif.get l).last.map Response.result = (u.lif.get l).last.map Response.result
          ∧ ((∀ body, i ≠ .takeNotice l body) →
            (t.lif.get l).last.map Response.body = (u.lif.get l).last.map Response.body))))
  ∧ ∀ (s : State) (code : Byte) (body : List Byte), s.receives .grout = true → s.steady = true → body.length ≤ 56 →
      (∀ q : Request, q.code ≠ code) → (s.lif.get .grout).silence.phase = .lapsed →
      (∀ i : LineIndex, s.grs[i].state = .probing → s.grs[i].window.elapsed < s.lim.g.probe) →
      (s.stc.phase = .draining → s.drained = false) →
      ∃ t, exec (.unknownRequest .grout code body) s = .next t
        ∧ t = { s.withHold { s.hold with groutLapse := false } with
            grs := t.grs, ntu := s.noted (.lapse .grout false :: s.holdNews { s.hold with groutLapse := false }),
            lif := t.lif }
        ∧ ∀ i : LineIndex, t.grs[i] = { s.grs[i] with
            valve := t.valveWanted i, noPulse := t.grs[i].noPulse,
            window := if s.pins.estop then s.grs[i].window else s.grs[i].window.resume }

/-- Section 9.2: TAKE_NOTICE removes from the sending link's list its earliest record of the highest class present, and
answers it; from an empty list it answers the kind none. Nothing else changes. The bytes of the answer, the kind none as one
byte 0 and the record as `takenBytes` gives it, are the model's reading of R155 (log 15). -/
def Obligations.TakeNoticeTakesHighestEarliest : Prop :=
  ∀ (s : State) (l : Link), s.hears l = true →
    (s.ntu.get l = [] →
      ∃ t, exec (.takeNotice l []) s = .next t ∧ s.untouched t l ∧ t.answered l ⟨.ok, [0#8]⟩)
    ∧ ∀ (before after : List NoticeRecord) (r : NoticeRecord), s.ntu.get l = before ++ r :: after →
      (∀ o ∈ before, r.notice.noticeClass < o.notice.noticeClass) →
      (∀ o ∈ after, r.notice.noticeClass ≤ o.notice.noticeClass) →
      ∃ t, exec (.takeNotice l []) s = .next t
        ∧ t = { s with ntu := s.ntu.set l (before ++ after), lif := t.lif } ∧ s.heardOn t l
        ∧ t.answered l ⟨.ok, takenBytes (some r)⟩

/-- Section 9.2: LINK_CLEAR empties the sending link's list and leaves the other three as they were; a lapse of the link
ends first, and the LAPSE record that raises in its own list goes with the rest. -/
def Obligations.LinkClearEmptiesOwnList : Prop :=
  ∀ (s : State) (l : Link), s.receives l = true → s.steady = true →
    ∃ t, exec (.linkClear l []) s = .next t ∧ t.ntu.get l = [] ∧ t.attention l = false ∧ t.answered l Reply.ok
      ∧ (t.lif.get l).silence.phase = .watching ∧ (t.lif.get l).silence.checks = 0
      ∧ ((s.lif.get l).silence.phase ≠ .lapsed →
        t = { s with ntu := s.ntu.set l [], lif := t.lif } ∧ s.heardOn t l)
      ∧ ∀ m, m ≠ l → (s.lif.get l).silence.phase = .lapsed → t.tells m (.lapse l false)

/-- Section 9.1: how a raise acts. On a list with no record of its key a record stands at the end with repeat count 0; a
record of its key takes the data and the time, keeps its place and first-raised, and its repeat count rises to at most 255;
every other record stays. It acts on the lists of its destinations alone, and every one of them then holds it. -/
def Obligations.RaiseMergesByKey : Prop :=
  (∀ (now : Nat) (n : Notice) (ns : List NoticeRecord),
    ((∀ r ∈ ns, r.notice.key ≠ n.key) → addRecord now n ns = ns ++ [⟨n, now, now, 0⟩])
    ∧ ∀ (before after : List NoticeRecord) (r : NoticeRecord), ns = before ++ r :: after → r.notice.key = n.key →
      (∀ o ∈ before, o.notice.key ≠ n.key) → (∀ o ∈ after, o.notice.key ≠ n.key) →
      addRecord now n ns = before ++ ⟨n, r.firstRaised, now, min (r.repeats + 1) 255⟩ :: after)
  ∧ ∀ (s : State) (n : Notice) (l : Link),
    (l ∉ n.links → (s.noted [n]).get l = s.ntu.get l)
    ∧ (l ∈ n.links → (s.noted [n]).get l = addRecord s.tmb.running n (s.ntu.get l)
      ∧ ∃ r ∈ (s.noted [n]).get l, r.notice = n)

/-- Section 10.6: READ changes no state. The selectors and arguments it takes, and the fields each of them gives, in the order
of R43, R79, R80, R93, R105, R106, R122, R158 and R159 (3.1, 4.10, 5.1, 5.5, 6.6, 7.1, 8.1, 10.6). Its parts hold at most 118
bytes each and joined they are the fields of the selector; the part asked for is answered behind its index and the number of
parts. A selector, an argument or a part index that is not allowed is refused with BAD_VALUE. The greedy cut is the model's
choice (log 14), and so are the encodings that R155 leaves open, the share of a line, and the elapsed time of a stopped timer
(logs 15, 16, 9). -/
def Obligations.ReadAnswersParts : Prop :=
  (∀ (s : State) (l : Link) (selector argument index : Byte), s.hears l = true →
    ∃ t, exec (.read l [selector, argument, index]) s = .next t
      ∧ (s.readFields selector.toNat argument.toNat = none → s.refusedWith t l .badValue)
      ∧ ∀ fields, s.readFields selector.toNat argument.toNat = some fields →
        ∀ parts, parts = cutParts fields [] →
          (∀ part, parts[index.toNat]? = some part → s.untouched t l
            ∧ t.answered l ⟨.ok, index :: BitVec.ofNat 8 parts.length :: part⟩)
          ∧ (parts.length ≤ index.toNat → s.refusedWith t l .badValue)
          ∧ parts.flatten = fields.flatten ∧ ∀ part ∈ parts, part.length ≤ 118)
  ∧ ∀ (s : State) (selector a : Nat),
    ((s.readFields selector a).isSome = true ↔
      (selector = 1 ∧ a / 4 ≤ 2) ∨ (2 ≤ selector ∧ selector ≤ 8) ∨ (selector = 9 ∧ a ≤ 3) ∨ selector = 10 ∨ selector = 11)
    ∧ (∀ shown, shown = (fun (o : Option (Nat × List Byte)) => some (match o with
          | none => [0#8]
          | some x => [1#8] ++ num2 x.1 ++ x.2)) →
      (s.readFields 1 0).map List.flatten
        = shown (s.rst.plan.map fun p => (p.number, p.toRingPlan.sectionBytes (some p.chains)))
      ∧ (s.readFields 1 1).map List.flatten
        = shown (s.rst.stroke.map fun r => (r.number, r.toRingPlan.sectionBytes r.chains))
      ∧ (s.readFields 1 2).map List.flatten
        = shown (s.rst.build.map fun b => (b.number, b.toRingPlan.sectionBytes none))
      ∧ (s.readFields 1 3).map List.flatten
        = shown (s.rst.done.map fun b => (b.number, b.toRingPlan.sectionBytes none))
      ∧ (s.readFields 1 4).map List.flatten = shown (s.rst.plan.map fun p => (p.number, [0#8]))
      ∧ (s.readFields 1 5).map List.flatten
        = shown (s.rst.stroke.map fun r =>
            (r.number, [1#8] ++ num1 s.stc.phase.ordinal ++ r.result.sectionBytes ++ r.flags.sectionBytes))
      ∧ (s.readFields 1 6).map List.flatten
        = shown (s.rst.build.map fun b => (b.number, [1#8] ++ b.result.sectionBytes ++ b.flags.sectionBytes))
      ∧ (s.readFields 1 7).map List.flatten
        = shown (s.rst.done.map fun b => (b.number, [1#8] ++ b.result.sectionBytes ++ b.flags.sectionBytes))
      ∧ (s.readFields 1 8).map List.flatten = shown (s.rst.plan.map fun p => (p.number, [0#8]))
      ∧ (s.readFields 1 9).map List.flatten = shown (s.rst.stroke.map fun r => (r.number, [0#8]))
      ∧ (s.readFields 1 10).map List.flatten
        = shown (s.rst.build.map fun b => (b.number, stackBytes b.stack))
      ∧ (s.readFields 1 11).map List.flatten
        = shown (s.rst.done.map fun b => (b.number, stackBytes b.stack)))
    ∧ s.readFields 2 a = some ((allShoes.flatMap fun i =>
        [num2 i.val, num1 (quadrant i).val, num1 s.sht[i].state.ordinal,
         optional (fun why => num1 (FaultReason.ordinal why)) s.sht[i].reason,
         optional (fun c : ClaimId => num2 c.val) s.sht[i].owner, num1 s.sht[i].timer.run.ordinal,
         num4 s.sht[i].timer.elapsed, num1 (s.drive i).ordinal, choice s.pins.seated[i], choice s.pins.retracted[i]])
        ++ [num2 (quadCount s.sht [] 0), num2 (quadCount s.sht [] 1), num2 (quadCount s.sht [] 2),
            num2 (quadCount s.sht [] 3), num2 (totalCount s.sht []), choice (!s.stc.phase.isOpen), num2 s.quadMin,
            num2 s.totalMin, choice (countsMeet s.sht [] s.quadMin s.totalMin)])
    ∧ s.readFields 3 a = some ([num2 s.bla.queue.length, num2 s.bla.counter.val,
          optional (fun w => num1 (WaitReason.ordinal w)) (s.bla.oldestWaiting.bind s.waitReason),
          num1 s.bla.queue.length]
        ++ s.bla.queue.flatMap fun c =>
          [num2 c.id.val, num1 c.kind.ordinal, num2 c.piece, num2 c.first.val, num2 c.span, num1 c.state.ordinal,
           num1 c.shoes.length] ++ c.shoes.flatMap fun i => [num2 i.val, num1 s.sht[i].state.ordinal])
    ∧ s.readFields 4 a = some ([num2 s.bal.window.length, optional num2 s.bal.spoilRatio, optional num2 s.bal.groutRatio,
          choice s.bal.judged.overExcavation, choice s.bal.judged.underRemoval, choice s.bal.judged.groutShortfall,
          num4 (min 4294967295 (s.bal.window.map fun w => w.expected).sum),
          num4 (min 4294967295 (s.bal.window.map fun w => w.removed).sum),
          num4 (min 4294967295 (s.bal.window.map fun w => w.void).sum),
          num4 (min 4294967295 (s.bal.window.map fun w => w.grout).sum), num1 s.bal.window.length]
        ++ (s.bal.window.flatMap fun w =>
          [num2 w.ring, num2 w.index, num2 w.length, num4 w.time, num4 w.expected, num4 w.removed, num4 w.void,
           num4 w.grout, num2 w.spoilRatio, optional num2 w.groutRatio, num4 w.rate, choice w.partialSlice,
           choice w.cut])
        ++ [num4 s.bal.screw, num4 s.bal.idle] ++ s.bal.strokePulses.toList.map num4 ++ s.bal.slicePulses.toList.map num4)
    ∧ s.readFields 5 a = some ((allLines.flatMap fun i =>
        [num1 s.grs[i].state.ordinal, debt2 s.grs[i].debt, num2 s.grs[i].remainder, optional num2 s.grs[i].pressure,
         choice s.grs[i].valve, num1 s.grs[i].noPulse.run.ordinal, num4 s.grs[i].noPulse.elapsed, num2 s.grs[i].backoff,
         num1 s.grs[i].backoffTimer.run.ordinal, num2 s.grs[i].backoffTimer.elapsed, num2 s.grs[i].probes,
         num1 s.grs[i].window.run.ordinal, num2 s.grs[i].window.elapsed, num2 s.geo.displacement[i],
         num2 (s.lineShare i), num2 (s.lineCeiling i)])
        ++ [num4 s.totalDebt, num2 s.lim.g.debt, choice s.hold.groutDebt])
    ∧ (∀ train, train = (fun t : Train => [num2 t.number, num4 t.capacity, optional num2 t.factor,
          optional num4 t.capacityPulses, num4 t.fillPulses, num4 (t.fill s.geo), choice t.urgent]) →
      ∀ slot, slot = (fun o : Option Train => match o with | none => [[0#8]] | some t => [1#8] :: train t) →
      s.readFields 6 a = some ([optional num2 s.spm.pressure, optional num4 s.spm.age, num1 s.spm.stale.run.ordinal,
          num4 s.spm.stale.elapsed, optional num2 (s.bandInForce.map fun b => b.1.low),
          optional num2 (s.bandInForce.map fun b => b.1.high), optional num2 (s.bandInForce.map fun b => b.1.margin),
          optional (fun b => num1 (BandSource.ordinal b)) (s.bandInForce.map fun b => b.2.1), choice s.hold.faceLimit,
          choice s.hold.faceStale, num4 s.spm.unassigned] ++ slot s.spm.loading ++ slot s.spm.standby))
    ∧ s.readFields 7 a = some [num2 s.rgv.ceiling, num2 s.rgv.threshold, num2 s.lim.a.ceilingMax, num2 s.lim.a.ceilingFloor,
        num2 s.lim.a.step, num2 s.lim.a.margin, num2 s.rgv.overspeeds, choice s.rgv.cutMark, choice s.hold.overspeed]
    ∧ s.readFields 8 a = some [s.hold.bytes]
    ∧ s.readFields 9 0 = some s.lim.a.fields ∧ s.readFields 9 1 = some s.lim.e.fields
    ∧ s.readFields 9 2 = some s.lim.g.fields ∧ s.readFields 9 3 = some s.lim.s.fields
    ∧ s.readFields 10 a = some ([num2 s.geo.cutDiameter, num2 s.geo.ringDiameter, num2 s.geo.sliceLength,
        num2 s.geo.pulsesPerRev, num2 s.geo.volumePerRev] ++ s.geo.displacement.toList.map num2
        ++ [num4 s.geo.faceArea, num4 s.geo.voidArea])
    ∧ s.readFields 11 a = some [num1 s.tmb.cause.ordinal, num4 s.tmb.running, choice s.configured, choice s.tmb.fallback]

/-! ## Configuration and limits -/

/-- Sections 11.1, 1.4, 5.1, 5.7, 6.6 and 7.7: CONFIGURE. STROKE or BUILD occupied, whatever the fields: refused with
WRONG_STATE; both empty and a field out of its range: BAD_VALUE; nothing changed by either. STROKE and BUILD empty, no stroke
in progress, and every field in its range: a fresh PLAN with the first ring number alone in the store, the two areas computed,
the governor at C_floor and C_max with no count and no mark, the window empty, each train's capacity pulses computed anew for
850 ‰, and nothing else changed. -/
def Obligations.ConfigureSetsUpThePart : Prop :=
  ∀ (s : State) (cut ring slice pulses volume first : Nat) (d : Vector Nat 6),
    s.hears .advance = true → cut < 65536 → ring < 65536 → slice < 256 → pulses < 65536 →
    volume < 65536 → first < 65536 → (∀ i : LineIndex, d[i] < 65536) →
    ∃ t, exec (.configure .advance (num2 cut ++ num2 ring ++ num1 slice ++ num2 pulses ++ num2 volume
        ++ d.toList.flatMap num2 ++ num2 first)) s = .next t
      ∧ if s.rst.stroke ≠ none ∨ s.rst.build ≠ none then s.refusedWith t .advance .wrongState
        else if 3000 ≤ cut ∧ cut ≤ 12000 ∧ 2800 ≤ ring ∧ ring + 20 ≤ cut ∧ 10 ≤ slice ∧ slice ≤ 50 ∧ 8 ≤ pulses
            ∧ pulses ≤ 256 ∧ 100 ≤ volume ∧ volume ≤ 20000 ∧ (∀ i : LineIndex, 5 ≤ d[i] ∧ d[i] ≤ 500) ∧ first ≤ 65534 then
          s.stc.phase = .none →
          t = { s with
              configured := true,
              geo := ⟨cut, ring, slice, pulses, volume, d, cut * cut * 51472 / 65536,
                (cut * cut - ring * ring) * 51472 / 65536⟩,
              rst := { plan := some ⟨⟨first, none, none, false, ⟨0, 1000, 50, 850, 1250⟩,
                         ⟨.default, .default, .default, .default⟩⟩, Vector.replicate 6 []⟩,
                       stroke := none, build := none, done := none, free := 32 },
              bal := { s.bal with window := [], idle := 0, spoilRatio := none, groutRatio := none,
                                  judged := ⟨false, false, false⟩ },
              rgv := ⟨s.lim.a.ceilingFloor, s.lim.a.ceilingMax, 0, false⟩,
              spm := { s.spm with loading := t.spm.loading, standby := t.spm.standby },
              hold := { s.hold with noTrain := t.hold.noTrain, trainFull := t.hold.trainFull },
              ntu := s.noted (s.trainNews t s.loadingUrgent ++ s.holdNews t.hold),
              lif := t.lif }
          ∧ s.heardOn t .advance ∧ t.answered .advance ⟨.ok, num4 t.geo.faceArea ++ num4 t.geo.voidArea ++ num2 first⟩
          ∧ t.trainsJudged
          ∧ t.spm.standby = s.spm.standby.map (fun r => r.computed t.geo 850)
          ∧ t.spm.loading.map (fun r => { r with urgent := false })
            = s.spm.loading.map (fun r => { r.computed t.geo 850 with urgent := false })
        else s.refusedWith t .advance .badValue

/-- Sections 11.2 and 6.5: SET_LIMITS on Link A writes group A whole, each field clamped and C_floor against the C_max just
stored, and answers it; the ceiling and the threshold are clamped into the new range, in an unconfigured part too (log 27); a
running move timer at or past a changed limit expires (3.3). -/
def Obligations.SetLimitsAdvanceStores : Prop :=
  ∀ (s : State) (a : LimitsA), s.hears .advance = true →
    (∀ n ∈ [a.ceilingMax, a.ceilingFloor, a.step, a.margin, a.quadAdvance, a.totalAdvance, a.quadIdle, a.totalIdle, a.silent],
      n < 65536) → a.retract < 4294967296 → a.extend < 4294967296 →
    ∃ t, exec (.setLimits .advance a.fields.flatten) s = .next t
      ∧ ∀ new, new = (⟨clamp 10 150 a.ceilingMax, clamp 5 (clamp 10 150 a.ceilingMax) a.ceilingFloor, clamp 1 20 a.step,
          clamp 0 300 a.margin, clamp 0 4 a.quadAdvance, clamp 4 16 a.totalAdvance, clamp 0 4 a.quadIdle,
          clamp 0 16 a.totalIdle, clamp 5000 120000 a.retract, clamp 5000 120000 a.extend, clamp 200 5000 a.silent⟩ : LimitsA) →
      t = { s with
          lim := { s.lim with a := new },
          rgv := { s.rgv with ceiling := clamp new.ceilingFloor new.ceilingMax s.rgv.ceiling,
                              threshold := clamp new.ceilingFloor new.ceilingMax s.rgv.threshold },
          hold := { s.hold with balance := t.hold.balance }, stc := { s.stc with phase := t.stc.phase },
          rst := t.rst, sht := t.sht, bla := t.bla, ntu := t.ntu, lif := t.lif }
      ∧ (s.stc.phase.isOpen = true → t.stc.phase = s.stc.phase.follow t.hold)
      ∧ t.hold.balance = (t.stc.phase.isOpen && !t.meetsAdvance)
      ∧ t.answered .advance ⟨if new = a then .ok else .clamped, new.fields.flatten⟩
      ∧ ∀ i : ShoeIndex, s.sht[i].timer.run = .running →
          (s.sht[i].state = .retracting → new.retract ≠ s.lim.a.retract → new.retract ≤ s.sht[i].timer.elapsed →
            t.sht[i].state = .fault ∧ t.sht[i].reason = some .moveTimeout)
          ∧ (s.sht[i].state = .extending → new.extend ≠ s.lim.a.extend → new.extend ≤ s.sht[i].timer.elapsed →
            t.sht[i].state = .fault ∧ t.sht[i].reason = some .moveTimeout)

/-- Section 11.2: SET_LIMITS on Links E and S writes their own group whole, each field clamped, and answers it. On Link S a
changed T_stale is judged against FACE_STALE while a stroke is open (7.2), and a changed u against the loading train's
urgency (7.5). -/
def Obligations.SetLimitsErectorSpoilStore : Prop :=
  (∀ (s : State) (silent : Nat), s.hears .erector = true → silent < 65536 →
    ∃ t, exec (.setLimits .erector (num2 silent)) s = .next t
      ∧ t = { s with lim := { s.lim with e := ⟨clamp 200 5000 silent⟩ }, lif := t.lif } ∧ s.heardOn t .erector
      ∧ t.answered .erector ⟨if clamp 200 5000 silent = silent then .ok else .clamped, num2 (clamp 200 5000 silent)⟩)
  ∧ ∀ (s : State) (b : LimitsS), s.hears .spoil = true →
    (∀ n ∈ [b.spoilHigh, b.spoilLow, b.urgent, b.stale, b.silent], n < 65536) →
    ∃ t, exec (.setLimits .spoil b.fields.flatten) s = .next t
      ∧ ∀ new, new = (⟨clamp 1000 1300 b.spoilHigh, clamp 700 1000 b.spoilLow, clamp 500 990 b.urgent, clamp 200 10000 b.stale,
          clamp 200 5000 b.silent⟩ : LimitsS) →
      t = { s.withHold { s.hold with faceStale :=
              if new.stale ≠ s.lim.s.stale ∧ s.stc.phase.isOpen = true then decide (new.stale ≤ s.spm.stale.elapsed)
              else s.hold.faceStale } with
          lim := { s.lim with s := new }, spm := { s.spm with loading := t.spm.loading },
          ntu := s.noted (s.trainNews t s.loadingUrgent ++ s.holdNews t.hold), lif := t.lif }
      ∧ t.spm.loading = s.spm.loading.map (fun r =>
          { r with urgent := r.urgent || (decide (new.urgent ≠ s.lim.s.urgent) && r.isUrgent new.urgent) })
      ∧ s.heardOn t .spoil
      ∧ t.answered .spoil ⟨if new = b then .ok else .clamped, new.fields.flatten⟩

/-- Sections 11.2, 8.7 and 2.6: SET_LIMITS on Link G writes group G whole, each field clamped, and answers it; no line's backoff
stands below the new B0. A changed T_block blocks an OPEN line under pressure that has reached it; a B0 above a line's backoff
raises it, and a BLOCKED line whose running backoff timer has reached it probes; a changed W_probe fails a probe whose running
window has reached it; a changed H judges GROUT_DEBT on the debts as they stand. In DRAINING a line so failed may complete the
drain, and a changed T_drain that the drain timer has reached ends the stroke with GROUT_SHORT. That T_block, W_probe, H and
T_drain are judged only if they changed, and in this order, is log 18. -/
def Obligations.SetLimitsGroutStores : Prop :=
  ∀ (s : State) (b : LimitsG), s.hears .grout = true →
    (∀ n ∈ [b.block, b.backoff, b.probe, b.debt, b.groutLow, b.silent], n < 65536) → b.drain < 4294967296 →
    ∃ t, exec (.setLimits .grout b.fields.flatten) s = .next t
      ∧ ∀ new, new = (⟨clamp 1000 30000 b.block, clamp 1000 60000 b.backoff, clamp 500 10000 b.probe, clamp 500 50000 b.debt,
          clamp 500 1000 b.groutLow, clamp 10000 600000 b.drain, clamp 200 5000 b.silent⟩ : LimitsG) →
      t.lim = { s.lim with g := new }
      ∧ t.answered .grout ⟨if new = b then .ok else .clamped, new.fields.flatten⟩
      ∧ (∀ i : LineIndex, new.backoff ≤ t.grs[i].backoff)
      ∧ ∀ blocks, blocks = (fun i : LineIndex => decide (new.block ≠ s.lim.g.block) && s.pressed i (s.lineCeiling i)
            && decide (s.grs[i].noPulse.run = .running) && decide (new.block ≤ s.grs[i].noPulse.elapsed)) →
        ∀ probes, probes = (fun i : LineIndex => decide (s.grs[i].state = .blocked) && decide (s.grs[i].backoff < new.backoff)
            && decide (s.grs[i].backoffTimer.run = .running) && decide (new.backoff ≤ s.grs[i].backoffTimer.elapsed)) →
        ∀ fails, fails = (fun i : LineIndex => decide (new.probe ≠ s.lim.g.probe) && decide (s.grs[i].state = .probing)
            && decide (s.grs[i].window.run = .running) && decide (new.probe ≤ s.grs[i].window.elapsed)) →
        ∀ states, states = (Vector.ofFn fun i : LineIndex => if blocks i then LineState.blocked
            else if probes i then .probing
            else if fails i then if s.grs[i].probes + 1 < 5 then .blocked else .failed
            else s.grs[i].state) →
        ∀ u : State, u = { s with
            lim := t.lim, grs := mapAll (fun x => { x with backoff := max x.backoff new.backoff }) s.grs } →
        if s.stc.phase = .draining ∧ s.settledWith states s.lineDebts = true then
          ∀ r, s.rst.stroke = some r →
            u.endsWith t r states s.lineDebts ∧ t.bal = s.bal ∧ t.rgv = s.rgv ∧ s.armedAfter t .grout
        else if s.stc.phase = .draining ∧ new.drain ≠ s.lim.g.drain ∧ s.stc.drainTimer.run = .running
            ∧ new.drain ≤ s.stc.drainTimer.elapsed then
          ∀ r, s.rst.stroke = some r →
            u.endsWith t { r with flags := { r.flags with groutShort := true } } states s.lineDebts
            ∧ t.bal = s.bal ∧ t.rgv = s.rgv ∧ s.armedAfter t .grout
        else
          t = { s.withHold { s.hold with groutDebt :=
                  if new.debt = s.lim.g.debt then s.hold.groutDebt
                  else if new.debt < s.totalDebt then true
                  else if 2 * s.totalDebt ≤ new.debt then false
                  else s.hold.groutDebt } with
              lim := t.lim, grs := t.grs, ntu := t.ntu, lif := t.lif }
          ∧ s.heardOn t .grout
          ∧ ∀ i : LineIndex, t.grs[i].debt = s.grs[i].debt ∧ t.grs[i].state = states[i]
            ∧ (blocks i = true →
              t.grs[i] = s.blockedRecord i (s.grs[i].pressure.getD 0) new.backoff
              ∧ t.tells .grout (.line i (.blocked (s.grs[i].pressure.getD 0) (s.lineCeiling i) s.grs[i].debt new.backoff)))
            ∧ (blocks i = false → probes i = true →
              t.grs[i] = { s.grs[i] with
                state := .probing, valve := t.valveWanted i, noPulse := t.grs[i].noPulse, backoff := new.backoff,
                backoffTimer := { s.grs[i].backoffTimer with run := .stopped },
                window := ⟨if s.pins.estop || s.hold.groutLapse then .paused else .running, 0⟩ })
            ∧ (fails i = true →
              t.grs[i].valve = false ∧ t.grs[i].probes = s.grs[i].probes + 1 ∧ t.grs[i].window.run = .stopped
              ∧ ∀ raised, raised = max s.grs[i].backoff new.backoff →
                if s.grs[i].probes + 1 < 5 then
                  t.grs[i].backoff = min (2 * raised) 60000
                  ∧ t.grs[i].backoffTimer = ⟨if s.pins.estop then .paused else .running, 0⟩
                  ∧ t.tells .grout (.line i (.blockedAgain (s.grs[i].probes + 1) (min (2 * raised) 60000)))
                else t.grs[i].backoff = raised ∧ t.grs[i].backoffTimer.run = .stopped
                  ∧ t.tells .grout (.line i (.failed s.grs[i].debt)))
            ∧ (blocks i = false → probes i = false → fails i = false →
              t.grs[i] = { s.grs[i] with backoff := max s.grs[i].backoff new.backoff })

/-! ## The ring store -/

/-- R8: PLAN_PIECES. Its five conditions on N and the entries together; the list stored in piece-number order when all hold,
the key of a ring with that list the piece numbered N, nothing changed and BAD_VALUE when any fails. -/
def Obligations.PlanPiecesTakesOnlyATiling : Prop :=
  ∀ (s : State) (n : Nat) (raw : List RawPiece) (p : PlanRing),
    s.hears .erector = true → s.configured = true → s.rst.plan = some p → n < 65536 → 1 ≤ raw.length → raw.length ≤ 8 →
    (∀ r ∈ raw, r.number < 65536 ∧ r.first < 65536 ∧ r.span < 65536) →
    ∃ t, exec (.planPieces .erector (num2 n ++ raw.flatMap fun r => num2 r.number ++ num2 r.first ++ num2 r.span)) s
        = .next t
      ∧ if 5 ≤ n ∧ n ≤ 8 ∧ raw.length = n
            ∧ (∀ k ∈ List.range' 1 n, (raw.filter fun r => r.number = k).length = 1)
            ∧ (∀ r ∈ raw, r.first < 16 ∧ 1 ≤ r.span ∧ r.span ≤ 4)
            ∧ (∀ i ∈ List.range 16,
                (raw.flatMap fun r => (List.range r.span).map fun k => (r.first + k) % 16).count i = 1) then
          ∃ ps, t.rst.plan.bind (fun q => q.pieces) = some ps
            ∧ t = { s with
                rst := { s.rst with
                  plan := some { p with pieces := some ps, marks := { p.marks with pieces := .given } } },
                lif := t.lif }
            ∧ ps.map (fun q => q.number) = List.range' 1 n
            ∧ (∀ q ∈ ps, (⟨q.number, q.first.val, q.span⟩ : RawPiece) ∈ raw)
            ∧ (∀ b : BuiltRing, b.pieces = some ps → b.count = n)
            ∧ s.heardOn t .erector ∧ t.answered .erector Reply.ok
        else s.refusedWith t .erector .badValue

/-- R9: PLAN_STROKE writes target and end-at-target together, in the PLAN record alone; a target outside 600..2,400 mm, or a
choice that is neither yes nor no, is refused and changes nothing. -/
def Obligations.PlanStrokeWritesBothFields : Prop :=
  ∀ (s : State) (target : Nat) (choice : Byte) (p : PlanRing),
    s.hears .advance = true → s.configured = true → s.rst.plan = some p → target < 65536 →
    ∃ t, exec (.planStroke .advance (num2 target ++ [choice])) s = .next t
      ∧ if 600 ≤ target ∧ target ≤ 2400 ∧ choice.toNat ≤ 1 then
          t = { s with
              rst := { s.rst with
                plan := some { p with
                  target := some target, endAtTarget := choice == 1#8, marks := { p.marks with stroke := .given } } },
              lif := t.lif }
            ∧ s.heardOn t .advance ∧ t.answered .advance Reply.ok
        else s.refusedWith t .advance .badValue

/-- Section 1.2 (PLAN_FACE): the five values clamped and band high raised to band low, written whole into PLAN; with "now"
while a stroke is open the band and the margin go into the STROKE ring too, its fill factor and bulking left; a "now" that
is neither yes nor no writes nothing. -/
def Obligations.PlanFaceWritesPlanAndNow : Prop :=
  ∀ (s : State) (low high margin fill bulking : Nat) (now : Byte) (p : PlanRing),
    s.hears .spoil = true → s.configured = true → s.rst.plan = some p →
    (∀ n ∈ [low, high, margin, fill, bulking], n < 65536) →
    ∃ t, exec (.planFace .spoil (num2 low ++ num2 high ++ num2 margin ++ num2 fill ++ num2 bulking ++ [now])) s = .next t
      ∧ if now.toNat ≤ 1 then
          ∀ f, f = (⟨min low 1000, max (min low 1000) (min high 1000), min margin 200, clamp 300 1000 fill,
                clamp 1000 1600 bulking⟩ : FacePlan) →
          ∀ applied, applied = (now == 1#8 && s.stc.phase.isOpen) →
            t = { s with
                rst := { s.rst with
                  plan := some { p with face := f, marks := { p.marks with face := .given } },
                  stroke := if applied then s.rst.stroke.map (fun r =>
                      { r with face := { r.face with low := f.low, high := f.high, margin := f.margin },
                               marks := { r.marks with face := .given } })
                    else s.rst.stroke },
                lif := t.lif }
            ∧ s.heardOn t .spoil
            ∧ t.answered .spoil ⟨if f = ⟨low, high, margin, fill, bulking⟩ then .ok else .clamped,
                num2 f.low ++ num2 f.high ++ num2 f.margin ++ num2 f.fill ++ num2 f.bulking ++ choice applied⟩
        else s.refusedWith t .spoil .badValue

/-- Section 1.3 (PLAN_GROUT_SET): one entry of one chain set, its share and ceiling clamped; a chain with that `from` has it
replaced and takes no entry from the pool, another takes a free entry unless the chain holds 4 or the ring 16. The chain stays
in ascending order and every other entry stays. -/
def Obligations.PlanGroutSetKeepsOrder : Prop :=
  ∀ (s : State) (line : Byte) (start share ceiling : Nat) (p : PlanRing),
    s.hears .grout = true → s.configured = true → s.rst.plan = some p → chainsLawful p.chains →
    start < 65536 → share < 65536 → ceiling < 65536 →
    ∃ t, exec (.planGroutSet .grout ([line] ++ num2 start ++ num2 share ++ num2 ceiling)) s = .next t
      ∧ ((6 ≤ line.toNat ∨ 2400 < start) → s.refusedWith t .grout .badValue)
      ∧ ∀ i : LineIndex, i.val = line.toNat → start ≤ 2400 →
        if (∀ g ∈ p.chains[i], g.start ≠ start) ∧ (4 ≤ p.chains[i].length ∨ 16 ≤ chainCount p.chains) then
          s.refusedWith t .grout .full
        else
          ∃ q, t.rst.plan = some q
            ∧ t = { s with
                rst := { s.rst with
                  plan := some q, free := if ∀ g ∈ p.chains[i], g.start ≠ start then s.rst.free - 1 else s.rst.free },
                lif := t.lif }
            ∧ q = { p with chains := p.chains.set i.val q.chains[i] i.isLt, marks := { p.marks with grout := .given } }
            ∧ q.chains[i].Pairwise (fun a b => a.start < b.start)
            ∧ (⟨start, min share 1000, clamp 100 2000 ceiling⟩ : GroutEntry) ∈ q.chains[i]
            ∧ (∀ g ∈ q.chains[i], g.start = start → g = ⟨start, min share 1000, clamp 100 2000 ceiling⟩)
            ∧ (∀ g ∈ q.chains[i], g.start ≠ start → g ∈ p.chains[i])
            ∧ (∀ g ∈ p.chains[i], g.start ≠ start → g ∈ q.chains[i])
            ∧ s.heardOn t .grout
            ∧ t.answered .grout ⟨if share ≤ 1000 ∧ 100 ≤ ceiling ∧ ceiling ≤ 2000 then .ok else .clamped,
                num2 q.chains[i].length ++ num2 (chainCount q.chains)⟩

/-- R14 and R15: PLAN_GROUT_DROP unlinks the entry with exactly that `from`, keeps the order of the others, and returns it
to the pool; PLAN_GROUT_CLEAR empties the line's chain, whether or not it was already empty, and returns every entry. A line
outside L0..L5, or for the drop a `from` the chain does not hold, is refused with BAD_VALUE. -/
def Obligations.PlanGroutDropAndClear : Prop :=
  ∀ (s : State) (line : Byte) (start : Nat) (p : PlanRing),
    s.hears .grout = true → s.configured = true → s.rst.plan = some p → chainsLawful p.chains → start < 65536 →
    (∃ t, exec (.planGroutDrop .grout ([line] ++ num2 start)) s = .next t
      ∧ (6 ≤ line.toNat → s.refusedWith t .grout .badValue)
      ∧ ∀ i : LineIndex, i.val = line.toNat →
        ((∀ g ∈ p.chains[i], g.start ≠ start) → s.refusedWith t .grout .badValue)
        ∧ ∀ (before after : List GroutEntry) (g : GroutEntry), p.chains[i] = before ++ g :: after → g.start = start →
          t = { s with
              rst := { s.rst with
                plan := some { p with chains := p.chains.set i.val (before ++ after) i.isLt,
                                      marks := { p.marks with grout := .given } },
                free := s.rst.free + 1 },
              lif := t.lif }
            ∧ s.heardOn t .grout
            ∧ t.answered .grout ⟨.ok, num2 (before ++ after).length ++ num2 (chainCount p.chains - 1)⟩)
    ∧ ∃ t, exec (.planGroutClear .grout [line]) s = .next t
      ∧ (6 ≤ line.toNat → s.refusedWith t .grout .badValue)
      ∧ ∀ i : LineIndex, i.val = line.toNat →
        t = { s with
            rst := { s.rst with
              plan := some { p with chains := p.chains.set i.val [] i.isLt, marks := { p.marks with grout := .given } },
              free := s.rst.free + p.chains[i].length },
            lif := t.lif }
          ∧ s.heardOn t .grout ∧ t.answered .grout Reply.ok

/-- Section 1.3 (active entries): the active entry of a chain at x mm is the last whose `from` is not above x; with none, and
with no chains in STROKE, the share is 0 and the ceiling 1,500. -/
def Obligations.ActiveEntryIsLastReached : Prop :=
  ∀ (s : State) (i : LineIndex) (x : Nat),
    (s.rst.stroke.bind (fun r => r.chains) = none → s.entryAt i x = ⟨0, 0, 1500⟩)
    ∧ ∀ v : Chains, s.rst.stroke.bind (fun r => r.chains) = some v →
      ((∀ g ∈ v[i], x < g.start) → s.entryAt i x = ⟨0, 0, 1500⟩)
      ∧ ∀ (before after : List GroutEntry) (g : GroutEntry), v[i] = before ++ g :: after → g.start ≤ x →
        (∀ o ∈ after, x < o.start) → s.entryAt i x = g

/-! ## The stroke -/

/-- Sections 1.4 and 2.2: STROKE_OPEN with STROKE empty and a valid PLAN numbered at most 65,534. The ring moves to STROKE
with an empty result and clear flags, its copy one number higher stands in PLAN, slice 1 opens at h = 0, the lines open, the
idle count becomes the stroke's, the trains are recomputed, and the stroke is ADVANCING or HELD by the set. -/
def Obligations.StrokeOpenOpensPlannedRing : Prop :=
  ∀ (s : State) (p : PlanRing), s.hears .advance = true → s.configured = true → s.rst.stroke = none →
    s.rst.plan = some p → p.pieces.isSome = true → p.target.isSome = true → p.number ≤ 65534 →
    ∃ t, exec (.strokeOpen .advance []) s = .next t
      ∧ t.rst.stroke = some ⟨p.toRingPlan, some p.chains,
          { StrokeResult.zero with removed := removedOf s.geo s.bal.idle p.face.fill }, RingFlags.clear⟩
      ∧ t.rst.plan = some { p with number := p.number + 1, marks := ⟨.carried, .carried, .carried, .carried⟩ }
      ∧ t.rst.free = s.rst.free - chainCount p.chains
      ∧ t.stc = { s.stc with
          phase := if t.hold.isEmpty then .advancing else .held, position := 0, highWater := 0, rollbackArmed := true,
          slice := some ⟨1, 0⟩, sliceTimer := 0 }
      ∧ t.bal = { s.bal with
          screw := s.bal.idle, idle := 0, strokePulses := Vector.replicate 6 0, slicePulses := Vector.replicate 6 0,
          lastHigh := 0, snapshot := ⟨0, 0, 0, 0, 0⟩ }
      ∧ t.rgv = { s.rgv with cutMark := false }
      ∧ (∀ i : LineIndex, t.grs[i].remainder = 0 ∧ t.grs[i].debt = s.grs[i].debt ∧ t.grs[i].pressure = s.grs[i].pressure
        ∧ (s.grs[i].state ≠ .closed → t.grs[i].state = s.grs[i].state ∧ t.grs[i].backoff = s.grs[i].backoff)
        ∧ (s.grs[i].state = .closed → t.grs[i].state = .opened ∧ t.grs[i].backoff = s.lim.g.backoff ∧ t.grs[i].probes = 0)
        ∧ t.grs[i].valve = t.valveWanted i)
      ∧ t.spm = { s.spm with stale := ⟨.running, 0⟩, loading := t.spm.loading, standby := t.spm.standby }
      ∧ t.spm.loading.map (fun r => { r with urgent := false })
        = s.spm.loading.map (fun r => { r.computed s.geo p.face.fill with urgent := false })
      ∧ t.spm.standby = s.spm.standby.map (fun r => r.computed s.geo p.face.fill)
      ∧ t.trainsJudged
      ∧ t.hold = { s.hold with
          balance := !t.meetsAdvance, faceStale := false, noTrain := t.hold.noTrain, trainFull := t.hold.trainFull }
      ∧ t = { s with
          rst := t.rst, stc := t.stc, bal := t.bal, rgv := t.rgv, grs := t.grs, spm := t.spm, hold := t.hold,
          sht := t.sht, bla := t.bla, ntu := t.ntu, lif := t.lif }
      ∧ (s.bla.queue = [] →
        t.sht = s.sht ∧ t.bla = s.bla ∧ t.rst.build = s.rst.build ∧ t.rst.done = s.rst.done)
      ∧ (∀ m, t.tells m (.stroke .opened p.number))
      ∧ s.armedAfter t .advance ∧ t.answered .advance Reply.ok

/-- Sections 1.4, 2.5 and 2.7: what the requests of the stroke refuse with WRONG_STATE, changing nothing: STROKE_OPEN with
STROKE occupied or a PLAN that is not valid or numbered 65,535, STROKE_END outside ADVANCING and HELD, STROKE_ABORT in NONE
and ENDED, RESUME while ESTOP_N is asserted. -/
def Obligations.StrokeRequestsRefused : Prop :=
  ∀ (s : State), s.hears .advance = true → s.configured = true →
    (∀ p, s.rst.plan = some p →
      s.rst.stroke.isSome = true ∨ p.pieces = none ∨ p.target = none ∨ p.number = 65535 →
      ∃ t, exec (.strokeOpen .advance []) s = .next t ∧ s.refusedWith t .advance .wrongState)
    ∧ (s.stc.phase = .none ∨ s.stc.phase = .draining ∨ s.stc.phase = .ended →
      ∃ t, exec (.strokeEnd .advance []) s = .next t ∧ s.refusedWith t .advance .wrongState)
    ∧ (s.stc.phase = .none ∨ s.stc.phase = .ended →
      ∃ t, exec (.strokeAbort .advance []) s = .next t ∧ s.refusedWith t .advance .wrongState)
    ∧ (s.pins.estop = true →
      ∃ t, exec (.resume .advance []) s = .next t ∧ s.refusedWith t .advance .wrongState)

/-- Section 2.7: STROKE_END. An open slice of some length closes as partial with its index, length and time, its demand in the
debts; one of no length leaves no record; either way no slice is open, the cut-this-slice mark is no and the permit is off.
While a line then owes a displacement or more the stroke moves to DRAINING with the drain timer at 0; with nothing so owed it
passes through DRAINING to its end in the same event, and the result is still OK. That the slice pulse counts stay as they stand
where no slice closes is the model's choice (log 28). -/
def Obligations.StrokeEndMovesToDraining : Prop :=
  ∀ (s : State) (r : StrokeRing), s.hears .advance = true → s.configured = true →
    s.stc.phase.sliceOpen = true → s.rst.stroke = some r →
    ∃ t, exec (.strokeEnd .advance []) s = .next t ∧ t.permit = false ∧ t.answered .advance Reply.ok
      ∧ s.finalClose t r ∧ t.rgv.cutMark = false
      ∧ if s.settledWith s.lineStates (s.finalDebts r) = true then
          s.endsWith t (s.finalRing t r) s.lineStates (s.finalDebts r) ∧ s.armedAfter t .advance
        else
          t = { s with
              stc := { s.stc with phase := .draining, slice := none, drainTimer := ⟨.running, 0⟩ },
              rst := { s.rst with stroke := some (s.finalRing t r) }, bal := t.bal, rgv := t.rgv, grs := t.grs,
              hold := { s.hold with groutDebt := t.hold.groutDebt }, ntu := t.ntu, lif := t.lif }
          ∧ (∀ m, t.tells m (.stroke .draining r.number)) ∧ s.heardOn t .advance
          ∧ t.lineDebts = s.finalDebts r ∧ t.lineStates = s.lineStates
          ∧ (s.finalSlice = none →
            t.grs = s.grs ∧ t.hold = s.hold ∧ t.ntu = s.noted [.stroke .draining r.number])

/-- Section 2.7: STROKE_ABORT in ADVANCING, HELD or DRAINING. INCOMPLETE_STROKE is set and the stroke ends at once, with every
effect of its end; an open slice of some length closes as partial first, so that its demand is in the shortfalls, and one of
no length leaves no record and the cut-this-slice mark at no, the slice pulse counts as they stood (the model's choice,
log 28). -/
def Obligations.StrokeAbortEndsIncomplete : Prop :=
  ∀ (s : State) (r : StrokeRing), s.hears .advance = true → s.configured = true → s.stc.phase.isOpen = true →
    s.rst.stroke = some r →
    ∃ t, exec (.strokeAbort .advance []) s = .next t ∧ t.answered .advance Reply.ok ∧ s.armedAfter t .advance
      ∧ t.permit = false
      ∧ (t.stc.phase = if s.rst.build = none then .none else .ended)
      ∧ (∃ b, t.endedRing = some b ∧ b.number = r.number ∧ b.flags.incompleteStroke = true)
      ∧ s.finalClose t r
      ∧ ∀ x, x = s.finalRing t r →
        s.endsWith t { x with flags := { x.flags with incompleteStroke := true } } s.lineStates (s.finalDebts r)

/-- R29: HOLD adds MASTER_HOLD in every stroke state of a configured part, with OK; ADVANCING goes to HELD and the permit
drops, the other states stay; with MASTER_HOLD present nothing changes; unconfigured it is refused with WRONG_STATE. -/
def Obligations.HoldAddsMasterHold : Prop :=
  ∀ (s : State), s.hears .advance = true →
    ∃ t, exec (.hold .advance []) s = .next t
      ∧ (s.configured = false → s.refusedWith t .advance .wrongState)
      ∧ (s.configured = true →
        t = { s.withHold { s.hold with masterHold := true } with
            ntu := s.noted (s.holdNews { s.hold with masterHold := true }), lif := t.lif }
        ∧ s.heardOn t .advance ∧ t.answered .advance Reply.ok ∧ t.permit = false
        ∧ t.stc.phase = (if s.stc.phase = .advancing then .held else s.stc.phase)
        ∧ (s.hold.masterHold = true → s.untouched t .advance))

/-- Sections 2.5 and 6.4: RESUME with ESTOP_N released removes the three latched members, whichever are present, and the
consecutive-overspeed count returns to 0; a HELD stroke whose set is then empty advances, and the permit is asserted. -/
def Obligations.ResumeRemovesLatched : Prop :=
  ∀ (s : State), s.hears .advance = true → s.configured = true → s.pins.estop = false →
    ∃ t, exec (.resume .advance []) s = .next t
      ∧ t = { s.withHold { s.hold with estop := false, masterHold := false, overspeed := false } with
          rgv := { s.rgv with overspeeds := 0 },
          ntu := s.noted (s.holdNews { s.hold with estop := false, masterHold := false, overspeed := false }),
          lif := t.lif }
      ∧ s.heardOn t .advance ∧ t.answered .advance Reply.ok
      ∧ (t.permit = true ↔ s.stc.phase.sliceOpen = true ∧ t.hold = HoldSet.empty)

/-- Sections 2.4, 3.2, 8.3 and 8.5: ESTOP_N. Asserting: ESTOP enters the set, ADVANCING goes to HELD, every drive is LOCK,
every move, backoff and window timer pauses, every valve closes, and all four lists are told. Released, with no paused backoff
or window at its limit and no drain due: all four lists are told, ESTOP stays in the set, a paused move timer starts again
from 0, backoff timers run on, window timers too unless Link G is in lapse, and every valve is judged. A level that does not
change is no event (log 7). Under either level the drive pair of every shoe carries the code of its state (R44): a BEARING
shoe pushes while the permit is asserted, an EXTENDING one clamps, a RETRACTING one retracts, all others are at LOCK. -/
def Obligations.EstopStopsAndReleases : Prop :=
  ∀ (s : State), s.running = true → s.steady = true →
    (∀ i : ShoeIndex, (s.drive i).lines =
      if s.pins.estop then (false, false)
      else if s.sht[i].state = .bearing then (s.permit, s.permit)
      else if s.sht[i].state = .retracting then (true, false)
      else if s.sht[i].state = .extending then (false, true)
      else (false, false))
    ∧ (s.pins.estop = true → exec .estopAssert s = .next s)
    ∧ (s.pins.estop = false → exec .estopRelease s = .next s)
    ∧ (s.pins.estop = false →
      ∃ t, exec .estopAssert s = .next t
        ∧ t = { s.withHold { s.hold with estop := true } with
            pins := { s.pins with estop := true }, sht := t.sht, grs := t.grs,
            ntu := s.noted (.estop true :: s.holdNews { s.hold with estop := true }) }
        ∧ t.permit = false ∧ (∀ i, t.drive i = .lock)
        ∧ (∀ i : ShoeIndex, t.sht[i] = { s.sht[i] with timer := s.sht[i].timer.pause })
        ∧ ∀ i : LineIndex, t.grs[i] = { s.grs[i] with
            valve := false, noPulse := if s.grs[i].valve then s.grs[i].noPulse.stop else s.grs[i].noPulse,
            backoffTimer := s.grs[i].backoffTimer.pause, window := s.grs[i].window.pause })
    ∧ (s.pins.estop = true → (s.stc.phase = .draining → s.drained = false) →
      (∀ i : LineIndex, (s.grs[i].state = .probing → s.grs[i].window.elapsed < s.lim.g.probe)
        ∧ (s.grs[i].state = .blocked → s.grs[i].backoffTimer.elapsed < s.grs[i].backoff)) →
      ∃ t, exec .estopRelease s = .next t
        ∧ t = { s with
            pins := { s.pins with estop := false }, sht := t.sht, grs := t.grs, ntu := s.noted [.estop false] }
        ∧ (∀ i : ShoeIndex, t.sht[i] =
            { s.sht[i] with timer := if s.sht[i].timer.run = .paused then ⟨.running, 0⟩ else s.sht[i].timer })
        ∧ ∀ i : LineIndex, t.grs[i].valve = t.valveWanted i
          ∧ t.grs[i].backoffTimer = s.grs[i].backoffTimer.resume
          ∧ t.grs[i].window = (if s.hold.groutLapse then s.grs[i].window else s.grs[i].window.resume)
          ∧ t.grs[i] = { s.grs[i] with
              valve := t.grs[i].valve, backoffTimer := t.grs[i].backoffTimer, window := t.grs[i].window,
              noPulse := t.grs[i].noPulse }
          ∧ (s.grs[i].valve = false →
            t.grs[i].noPulse = if t.grs[i].valve && s.grs[i].state = .opened then ⟨.running, 0⟩ else s.grs[i].noPulse))

/-- Section 2.6: the travel input. One phase changing alone is a step, forward in the four combinations in which TRAV_P
leads; both or neither is none. A step below the high-water mark moves p by one and writes it to the stroke result, p
saturates at 0 and 65,535, a rollback above 50 counts is told once and armed again at 10; with no stroke open nothing is
counted. -/
def Obligations.TravelStepMovesPosition : Prop :=
  ∀ (s : State) (p q : Bool), s.running = true → s.steady = true →
    ∃ t, exec (.travelStep p q) s = .next t ∧ t.pins = { s.pins with travP := p, travQ := q }
      ∧ ((s.stc.phase.isOpen = false ∨ ((s.stepsForward p q = false ∨ s.stc.position = 65535)
            ∧ (s.stepsBackward p q = false ∨ s.stc.position = 0))) → t = { s with pins := t.pins })
      ∧ (s.stc.phase.isOpen = true → s.stepsForward p q = true → s.stc.position < 65535 →
          s.stc.position < s.stc.highWater →
        t = { s with
            pins := t.pins, rst := { s.rst with stroke := t.rst.stroke },
            stc := { s.stc with
              position := s.stc.position + 1,
              rollbackArmed := s.stc.rollbackArmed || decide (s.stc.highWater - (s.stc.position + 1) ≤ 10) } }
        ∧ t.rst.stroke = s.rst.stroke.map fun r =>
            { r with result := { r.result with finalTravel := s.stc.position + 1, highWater := s.stc.highWater } })
      ∧ (s.stc.phase.isOpen = true → s.stepsBackward p q = true → 0 < s.stc.position →
          s.stc.position ≤ s.stc.highWater →
        t = { s with
            pins := t.pins, rst := { s.rst with stroke := t.rst.stroke },
            stc := { s.stc with position := s.stc.position - 1, rollbackArmed := t.stc.rollbackArmed }, ntu := t.ntu }
        ∧ (t.rst.stroke = s.rst.stroke.map fun r =>
            { r with result := { r.result with finalTravel := s.stc.position - 1, highWater := s.stc.highWater } })
        ∧ ∀ roll, roll = s.stc.highWater - (s.stc.position - 1) →
          if s.stc.rollbackArmed = true ∧ 50 < roll then
            t.stc.rollbackArmed = false ∧ t.ntu = s.noted [.rollback roll (s.stc.position - 1)]
          else t.stc.rollbackArmed = (s.stc.rollbackArmed || decide (roll ≤ 10)) ∧ t.ntu = s.ntu)

/-- Sections 2.6, 5.3 and 8.4: a forward step from the high-water mark raises h with p and recomputes the excavated, expected
and void volumes of the STROKE ring, where it reaches no slice boundary and no target, and no drain is due. A line whose active
entry the rise changes is judged against its new ceiling, and blocks under pressure with no pulse for T_block; nothing else
changes. -/
def Obligations.RiseRecomputesVolumes : Prop :=
  ∀ (s : State) (p q : Bool) (r : StrokeRing), s.running = true → s.steady = true → s.stc.phase.isOpen = true →
    s.stepsForward p q = true → s.stc.position = s.stc.highWater → s.stc.highWater < 65535 → s.rst.stroke = some r →
    (∀ k, s.stc.slice = some k → s.stc.highWater + 1 ≠ k.index * (s.geo.sliceLength * 10)) →
    (r.endAtTarget = true → ∀ n, r.target = some n → s.stc.highWater + 1 ≠ n * 10) →
    (s.stc.phase = .draining → s.drained = false) →
    ∃ t, exec (.travelStep p q) s = .next t
      ∧ ∀ h, h = s.stc.highWater + 1 →
        t = { s with
          pins := { s.pins with travP := p, travQ := q },
          stc := { s.stc with position := h, highWater := h, rollbackArmed := true },
          bal := { s.bal with lastHigh := h },
          rst := { s.rst with stroke := some { r with result := { r.result with
              finalTravel := h, highWater := h,
              excavated := min (s.geo.faceArea * h / 1000000) 4294967295,
              expected := min (min (s.geo.faceArea * h / 1000000) 4294967295 * r.face.bulking / 1000) 4294967295,
              void := min (s.geo.voidArea * h / 1000000) 4294967295 } } },
          grs := t.grs, ntu := t.ntu }
        ∧ ((∀ i, s.entryAt i (h / 10) = s.entryAt i (s.stc.highWater / 10)) → t.grs = s.grs)
        ∧ (t.grs = s.grs → t.ntu = s.ntu)
        ∧ ∀ i, if s.entryAt i (h / 10) ≠ s.entryAt i (s.stc.highWater / 10)
              ∧ s.pressed i (s.entryAt i (h / 10)).ceiling = true ∧ s.grs[i].noPulse.run = .running
              ∧ s.lim.g.block ≤ s.grs[i].noPulse.elapsed then
            s.blockedAt t i (s.grs[i].pressure.getD 0) (s.entryAt i (h / 10)).ceiling
          else t.grs[i] = s.grs[i]

/-- Sections 2.6, 5.4 and 5.5: the step at which h reaches the end of the open slice closes it whole, not partial, with its
index, its length of S × 10 counts and the slice timer's time, and opens the next at h with its timer at 0. The record holds
the rise of each cumulative figure since the last close, the rate floor(length × 6,000 / max(t, 1)) and the ratios rounded
half up; it enters the window as its newest, the oldest leaving beyond eight, and the figures are kept for the next close. -/
def Obligations.BoundaryClosesFullSlice : Prop :=
  ∀ (s : State) (p q : Bool) (k : OpenSlice) (r : StrokeRing), s.reachesBoundary p q k r →
    ∃ t, exec (.travelStep p q) s = .next t
      ∧ (t.stc.position = s.stc.highWater + 1 ∧ t.stc.highWater = s.stc.highWater + 1
        ∧ t.stc.slice = some ⟨k.index + 1, s.stc.highWater + 1⟩ ∧ t.stc.sliceTimer = 0)
      ∧ ∃ w, t.bal.window.getLast? = some w ∧ ∃ x, t.rst.stroke.map (fun y => y.result) = some x
        ∧ t.bal.window.length = min 8 (s.bal.window.length + 1)
        ∧ t.bal.window.dropLast = s.bal.window.drop (s.bal.window.length - 7)
        ∧ x.sliceCount = min 65535 (r.result.sliceCount + 1) ∧ x.removed = r.result.removed
        ∧ x.groutTotal = r.result.groutTotal ∧ x.void = voidOf s.geo (s.stc.highWater + 1)
        ∧ t.bal.snapshot = ⟨x.excavated, x.expected, x.removed, x.void, x.groutTotal⟩
        ∧ w.ring = r.number ∧ w.index = k.index ∧ w.length = s.geo.sliceLength * 10 ∧ w.time = s.stc.sliceTimer
        ∧ w.partialSlice = false
        ∧ w.expected = x.expected - s.bal.snapshot.expected ∧ w.removed = x.removed - s.bal.snapshot.removed
        ∧ w.void = x.void - s.bal.snapshot.void ∧ w.grout = x.groutTotal - s.bal.snapshot.grout
        ∧ w.rate = min 3000000 (w.length * 6000 / max w.time 1)
        ∧ w.spoilRatio = min 9999 ((2000 * w.removed + w.expected) / (2 * w.expected))
        ∧ w.groutRatio = (if w.void = 0 then none else some (min 9999 ((2000 * w.grout + w.void) / (2 * w.void))))

/-- Sections 5.5 and 6.2: at a slice close the window's two ratios are formed when it holds four records and the denominator
is not 0, and judged against W_hi, W_lo and G_lo; a judgement sets its flag in the STROKE ring and tells its links; nothing
is judged with fewer records. -/
def Obligations.SliceCloseJudgesWindow : Prop :=
  ∀ (s : State) (p q : Bool) (k : OpenSlice) (r : StrokeRing), s.reachesBoundary p q k r →
    ∃ t, exec (.travelStep p q) s = .next t
      ∧ (∀ w, w = t.bal.window →
        t.bal.spoilRatio = (if w.length < 4 ∨ windowSum w SliceRecord.expected = 0 then none
          else some (ratioOf (windowSum w SliceRecord.removed) (windowSum w SliceRecord.expected)))
        ∧ t.bal.groutRatio = (if w.length < 4 ∨ windowSum w SliceRecord.void = 0 then none
          else some (ratioOf (windowSum w SliceRecord.grout) (windowSum w SliceRecord.void))))
      ∧ (t.bal.judged.overExcavation = t.bal.spoilRatio.any fun x => s.lim.s.spoilHigh < x)
      ∧ (t.bal.judged.underRemoval = t.bal.spoilRatio.any fun x => x < s.lim.s.spoilLow)
      ∧ (t.bal.judged.groutShortfall = t.bal.groutRatio.any fun x => x < s.lim.g.groutLow)
      ∧ ∃ y, t.rst.stroke = some y
        ∧ y.flags = { r.flags with
            overExcavation := r.flags.overExcavation || t.bal.judged.overExcavation,
            underRemoval := r.flags.underRemoval || t.bal.judged.underRemoval,
            overspeed := y.flags.overspeed }
        ∧ (t.bal.judged.overExcavation = true → ∀ l ∈ [Link.advance, Link.spoil],
          t.tells l (.overExcavation (t.bal.spoilRatio.getD 0) t.bal.window.length r.number k.index))
        ∧ (t.bal.judged.underRemoval = true → ∀ l ∈ [Link.advance, Link.spoil],
          t.tells l (.underRemoval (t.bal.spoilRatio.getD 0) t.bal.window.length r.number k.index))
        ∧ (t.bal.judged.groutShortfall = true → ∀ l ∈ [Link.advance, Link.grout],
          t.tells l (.groutShortfall (t.bal.groutRatio.getD 0) t.bal.window.length r.number k.index))

/-- Section 8.2: at a slice close each line that is not CLOSED is charged its share, at the slice's start, of the slice's
void, the thousandths carried in its remainder and the debt saturating; GROUT_DEBT is judged on the total against H and
H / 2. -/
def Obligations.SliceDemandChargesLines : Prop :=
  ∀ (s : State) (p q : Bool) (k : OpenSlice) (r : StrokeRing), s.reachesBoundary p q k r →
    ∃ t, exec (.travelStep p q) s = .next t ∧ ∃ w, t.bal.window.getLast? = some w
      ∧ (∀ i : LineIndex,
        (s.grs[i].state = .closed → t.grs[i].debt = s.grs[i].debt ∧ t.grs[i].remainder = s.grs[i].remainder)
        ∧ (s.grs[i].state ≠ .closed → ∀ due, due = w.void * (s.entryAt i ((k.index - 1) * s.geo.sliceLength)).share
              + s.grs[i].remainder →
          t.grs[i].debt = max (-32768) (min 32767 (s.grs[i].debt + (due / 1000 : Nat)))
            ∧ t.grs[i].remainder = due % 1000)
        ∧ t.grs[i].valve = t.valveWanted i)
      ∧ t.hold.groutDebt = (if s.lim.g.debt < t.totalDebt then true else if 2 * t.totalDebt ≤ s.lim.g.debt then false
          else s.hold.groutDebt)

/-- Sections 6.2 to 6.4: the governor at a slice close. A full slice whose rate stands above the ceiling by more than the
margin counts as overspeed, the second in a row latches OVERSPEED; an excursion the window shows cuts the ceiling to C_floor
and halves the threshold, once for the slice; a slice that was not cut raises the ceiling, doubling it below the threshold
and by one step above it. The event that latches OVERSPEED sets OVERSPEED_SEEN in the STROKE ring (log 19). -/
def Obligations.GovernorAtSliceClose : Prop :=
  ∀ (s : State) (p q : Bool) (k : OpenSlice) (r : StrokeRing), s.reachesBoundary p q k r →
    ∃ t, exec (.travelStep p q) s = .next t ∧ ∃ w, t.bal.window.getLast? = some w ∧
      ∀ fast excursion, fast = decide (s.rgv.ceiling * (1000 + s.lim.a.margin) < 1000 * w.rate) →
          excursion = (t.bal.judged.overExcavation || t.bal.judged.groutShortfall) →
        t.rgv.overspeeds = (if fast then min 2 (s.rgv.overspeeds + 1) else 0)
        ∧ t.hold.overspeed = (s.hold.overspeed || (fast && decide (t.rgv.overspeeds = 2)))
        ∧ (t.rst.stroke.map fun y => y.flags.overspeed)
          = some (r.flags.overspeed || (t.hold.overspeed && !s.hold.overspeed))
        ∧ (fast = true →
          t.tells .advance (.rateExceeded w.rate s.rgv.ceiling s.lim.a.margin t.rgv.overspeeds r.number k.index))
        ∧ w.cut = (s.rgv.cutMark || excursion) ∧ t.rgv.cutMark = false
        ∧ (excursion = true → s.rgv.cutMark = false →
          t.rgv.ceiling = s.lim.a.ceilingFloor ∧ t.rgv.threshold = max (s.rgv.ceiling / 2) s.lim.a.ceilingFloor
          ∧ t.tells .advance (.rateCut
              (if t.bal.judged.overExcavation && t.bal.judged.groutShortfall then .both
                else if t.bal.judged.overExcavation then .overExcavation else .groutShortfall)
              s.rgv.ceiling t.rgv.ceiling t.rgv.threshold r.number k.index))
        ∧ (s.rgv.cutMark = true → t.rgv.ceiling = s.rgv.ceiling ∧ t.rgv.threshold = s.rgv.threshold)
        ∧ (excursion = false → s.rgv.cutMark = false → t.rgv.threshold = s.rgv.threshold
          ∧ t.rgv.ceiling = (if s.rgv.ceiling < s.rgv.threshold then min (2 * s.rgv.ceiling) s.rgv.threshold
              else min (s.rgv.ceiling + s.lim.a.step) s.lim.a.ceilingMax))

/-- Section 2.7: the step at which h reaches the target of a ring planned to end there ends the stroke's advance: the open slice
closes, whole at its boundary and as partial short of it, and its demand is in the debts. While a line then owes a displacement
or more the stroke moves to DRAINING; with nothing so owed it passes through DRAINING to its end in the same event. -/
def Obligations.TargetEndsTheAdvance : Prop :=
  ∀ (s : State) (p q : Bool) (r : StrokeRing) (k : OpenSlice) (n : Nat), s.running = true → s.steady = true →
    s.stc.phase.sliceOpen = true → s.stepsForward p q = true → s.stc.position = s.stc.highWater →
    s.stc.highWater < 65535 → s.rst.stroke = some r → r.endAtTarget = true → r.target = some n →
    s.stc.highWater + 1 = n * 10 → s.stc.slice = some k → k.start ≤ s.stc.highWater →
    ∃ t, exec (.travelStep p q) s = .next t ∧ t.permit = false
      ∧ t.stc.position = n * 10 ∧ t.stc.highWater = n * 10 ∧ t.stc.slice = none ∧ t.rgv.cutMark = false
      ∧ (∃ w, t.bal.window.getLast? = some w ∧ w.ring = r.number ∧ w.index = k.index
        ∧ ((n * 10 = k.index * (s.geo.sliceLength * 10) → w.partialSlice = false ∧ w.length = s.geo.sliceLength * 10)
          ∧ (n * 10 ≠ k.index * (s.geo.sliceLength * 10) → w.partialSlice = true ∧ w.length = n * 10 - k.start)))
      ∧ ∀ x, x = { r with
            result := { r.result with
              finalTravel := n * 10, highWater := n * 10, sliceCount := min (r.result.sliceCount + 1) 65535,
              excavated := excavatedOf s.geo (n * 10),
              expected := expectedOf (excavatedOf s.geo (n * 10)) r.face.bulking, void := voidOf s.geo (n * 10) },
            flags := { r.flags with
              overExcavation := r.flags.overExcavation || t.bal.judged.overExcavation,
              underRemoval := r.flags.underRemoval || t.bal.judged.underRemoval,
              overspeed := r.flags.overspeed || (t.hold.overspeed && !s.hold.overspeed) } } →
        ∀ debts, debts = s.chargedDebts k (voidOf s.geo (n * 10) - s.bal.snapshot.void) →
        if s.settledWith s.lineStates debts = true then
          ({ s with
              pins := { s.pins with travP := p, travQ := q },
              stc := { s.stc with position := n * 10, highWater := n * 10, rollbackArmed := true,
                                  sliceTimer := t.stc.sliceTimer },
              hold := { s.hold with overspeed := t.hold.overspeed } } : State).endsWith t x s.lineStates debts
          ∧ s.rearmed t
        else
          t.stc.phase = .draining ∧ t.stc.drainTimer = ⟨.running, 0⟩ ∧ t.rst = { s.rst with stroke := some x }
          ∧ t.lineDebts = debts ∧ ∀ m, t.tells m (.stroke .draining r.number)

/-- Sections 2.7, 1.4, 3.5, 7.2, 8.6 and 9.3: the two ways a DRAINING stroke ends by itself, and the move that follows. The
drain condition ends it; the drain timer at T_drain sets GROUT_SHORT and ends it. A ring waiting ENDED in STROKE moves into an
empty BUILD with an empty stack. That drain completion and the move are commands that judge again and are void where nothing
is due is log 21, that the expiry is void short of T_drain is log 5: both the model's choices. -/
def Obligations.DrainingStrokeEnds : Prop :=
  ∀ (s : State) (r : StrokeRing), s.running = true → s.steady = true → s.rst.stroke = some r →
    (s.stc.phase = .draining → s.drained = true →
      ∃ t, exec .drainCompletion s = .next t ∧ s.endsTo t r r.flags ∧ s.rearmed t)
    ∧ ((s.stc.phase ≠ .draining ∨ s.drained = false) → exec .drainCompletion s = .next s)
    ∧ (s.stc.phase = .draining → s.stc.drainTimer.run = .running → s.lim.g.drain ≤ s.stc.drainTimer.elapsed →
      ∃ t, exec .drainTimeout s = .next t ∧ s.endsTo t r { r.flags with groutShort := true } ∧ s.rearmed t)
    ∧ ((s.stc.phase ≠ .draining ∨ s.stc.drainTimer.run ≠ .running ∨ s.stc.drainTimer.elapsed < s.lim.g.drain) →
      exec .drainTimeout s = .next s)
    ∧ (s.stc.phase = .ended → s.rst.build = none →
      exec .strokeToBuild s = .next { s with
        rst := { s.rst with stroke := none, build := some ⟨r.toRingPlan, r.result, r.flags, []⟩ },
        stc := { s.stc with phase := .none }, ntu := s.noted [.stroke .toBuild r.number] })
    ∧ ((s.stc.phase ≠ .ended ∨ s.rst.build ≠ none) → exec .strokeToBuild s = .next s)

/-! ## The shoes -/

/-- Section 3.3 (SHOE_RESET): a FAULT shoe that no claim owns enters EXTENDING with no reason, its timer at 0, and is judged
against its inputs at once; a shoe above 15 is a bad value, and a shoe that is not in FAULT, or is owned, is refused. -/
def Obligations.ShoeResetEntersExtending : Prop :=
  ∀ (s : State) (n : Nat), s.hears .advance = true → s.configured = true → n < 65536 →
    ∃ t, exec (.shoeReset .advance (num2 n)) s = .next t
      ∧ (16 ≤ n → s.refusedWith t .advance .badValue)
      ∧ ∀ i : ShoeIndex, i.val = n →
        if s.sht[i].state = .fault ∧ s.sht[i].owner = none then
          s.shoeStep t i (s.extended i)
              (if (s.extended i).state = .fault then [.shoeFault i .sensorConflict .extending] else [])
            ∧ t.pins = s.pins ∧ s.armedAfter t .advance
            ∧ t.answered .advance ⟨.ok, num1 t.sht[i].state.ordinal
                ++ (match t.sht[i].reason with | none => [0#8] | some why => 1#8 :: num1 (FaultReason.ordinal why))⟩
        else s.refusedWith t .advance .wrongState

/-- Sections 3.3 and 3.4: what a change of a shoe's inputs does in each state. Seated asserting seats an EXTENDING shoe and
conflicts with an asserted limit outside FAULT; seated dropping faults a BEARING shoe; the limit asserting clears a
RETRACTING shoe and conflicts with an asserted seated input; the limit releasing has no effect. A level that does not change
is no event (log 7). A running move timer at T_retract in RETRACTING, or at T_extend in EXTENDING, sends the shoe to FAULT with
MOVE_TIMEOUT; short of that, or paused, the command is void (log 5). A fault of a shoe that a claim owns sends the claim to
FAULTED, unless it is RETURNING, and tells Link E (4.5). -/
def Obligations.ShoeInputsAndTimersMoveTheShoe : Prop :=
  (∀ (s : State) (i : ShoeIndex), s.running = true → s.steady = true →
     (∃ t, exec (.seatedAsserts i) s = .next t
       ∧ if s.pins.seated[i] = true then t = s
         else t.pins = { s.pins with seated := s.pins.seated.set i.val true i.isLt } ∧ s.rearmed t
           ∧ if s.pins.retracted[i] = true then
               if s.sht[i].state = .fault then s.shoeStep t i s.sht[i] []
               else s.shoeStep t i (s.sht[i].faulted .sensorConflict) [.shoeFault i .sensorConflict s.sht[i].state]
                 ∧ ∀ c ∈ s.bla.queue, s.sht[i].owner = some c.id → (s.bla.queue.map fun d => d.id).Nodup → t.claimFaulted c i
             else if s.sht[i].state = .extending then
               s.shoeStep t i { s.sht[i] with state := .bearing, timer := s.sht[i].timer.stop } []
             else s.shoeStep t i s.sht[i] [])
     ∧ (∃ t, exec (.seatedDrops i) s = .next t
       ∧ if s.pins.seated[i] = false then t = s
         else t.pins = { s.pins with seated := s.pins.seated.set i.val false i.isLt } ∧ s.rearmed t
           ∧ if s.sht[i].state = .bearing then
               s.shoeStep t i (s.sht[i].faulted .lostBearing) [.shoeFault i .lostBearing .bearing]
                 ∧ ∀ c ∈ s.bla.queue, s.sht[i].owner = some c.id → (s.bla.queue.map fun d => d.id).Nodup → t.claimFaulted c i
             else s.shoeStep t i s.sht[i] [])
     ∧ (∃ t, exec (.retractedLimitChange i true) s = .next t
       ∧ if s.pins.retracted[i] = true then t = s
         else t.pins = { s.pins with retracted := s.pins.retracted.set i.val true i.isLt } ∧ s.rearmed t
           ∧ if s.pins.seated[i] = true then
               if s.sht[i].state = .fault then s.shoeStep t i s.sht[i] []
               else s.shoeStep t i (s.sht[i].faulted .sensorConflict) [.shoeFault i .sensorConflict s.sht[i].state]
                 ∧ ∀ c ∈ s.bla.queue, s.sht[i].owner = some c.id → (s.bla.queue.map fun d => d.id).Nodup → t.claimFaulted c i
             else if s.sht[i].state = .retracting then
               s.shoeStep t i { s.sht[i] with state := .clear, timer := s.sht[i].timer.stop } []
             else s.shoeStep t i s.sht[i] [])
     ∧ exec (.retractedLimitChange i false) s
       = .next { s with pins := { s.pins with retracted := s.pins.retracted.set i.val false i.isLt } })
  ∧ ∀ (s : State) (i : ShoeIndex), s.running = true → s.steady = true →
      ∃ t, exec (.moveTimeout i) s = .next t
        ∧ if s.sht[i].timer.run = .running
              ∧ ((s.sht[i].state = .retracting ∧ s.lim.a.retract ≤ s.sht[i].timer.elapsed)
                ∨ (s.sht[i].state = .extending ∧ s.lim.a.extend ≤ s.sht[i].timer.elapsed)) then
            s.shoeStep t i (s.sht[i].faulted .moveTimeout) [.shoeFault i .moveTimeout s.sht[i].state] ∧ t.pins = s.pins
              ∧ s.rearmed t
              ∧ ∀ c ∈ s.bla.queue, s.sht[i].owner = some c.id → (s.bla.queue.map fun d => d.id).Nodup → t.claimFaulted c i
          else t = s

/-! ## Claims and ring building -/

/-- Section 4.2: CLAIM and WITHDRAW. Each is judged in its order; an accepted one takes the first id from the counter that no
claim holds, moves the counter past it, and stands at the tail of the queue with the piece's span; with nothing granted it
waits and nothing else changes. With BUILD empty both are refused with WRONG_STATE, whatever the piece. That the answer gives
the shoe set as a counted list is the model's choice (log 15). -/
def Obligations.ClaimAndWithdrawAreQueued : Prop :=
  (∀ (s : State) (n : Nat) (b : BuiltRing) (ps : List Piece), s.hears .erector = true → s.configured = true →
     s.rst.build = some b → b.pieces = some ps → n < 65536 → s.claimsFollow = true → s.balanceKept = true →
     (∃ t, exec (.claim .erector (num2 n)) s = .next t
       ∧ ∀ found, found = ps.find? (fun q => q.number = n) →
         if found = none then s.refusedWith t .erector .badValue
         else if (∃ c ∈ s.bla.queue, c.kind = .withdraw) ∨ (∃ e ∈ b.stack, e.piece = n) ∨ (∃ c ∈ s.bla.queue, c.piece = n)
             ∨ (n = ps.length ∧ ((∃ q ∈ ps, q.number ≠ n ∧ ∀ e ∈ b.stack, e.piece ≠ q.number) ∨ s.bla.queue ≠ [])) then
           s.refusedWith t .erector .wrongState
         else if 4 ≤ s.bla.queue.length then s.refusedWith t .erector .full
         else ∀ q, found = some q → s.queuedClaim t .place q)
     ∧ ∃ t, exec (.withdraw .erector (num2 n)) s = .next t
       ∧ ∀ found, found = ps.find? (fun q => q.number = n) →
         if s.bla.queue ≠ [] ∨ (b.stack.getLast?.map fun e => e.piece) ≠ some n ∨ found = none then
           s.refusedWith t .erector .wrongState
         else ∀ q, found = some q → s.queuedClaim t .withdraw q)
  ∧ ∀ (s : State) (n : Nat), s.hears .erector = true → s.rst.build = none → n < 65536 →
      (∃ t, exec (.claim .erector (num2 n)) s = .next t ∧ s.refusedWith t .erector .wrongState)
      ∧ ∃ t, exec (.withdraw .erector (num2 n)) s = .next t ∧ s.refusedWith t .erector .wrongState

/-- Section 4.3: the oldest WAITING claim is granted when fewer than two claims are active, its shoes are BEARING and without
an owner, and the counts less its shoes meet the set in force. The claim goes to RETRACTING, its shoes retract under it, and
Link E is told; failing a condition it waits and nothing changes (a grant as a command that judges again is log 21). A granted
claim stays RETRACTING until the last of its shoes reaches CLEAR; in that event it goes to CLEAR, and Link E is told (4.4). -/
def Obligations.GrantRetractsTheShoes : Prop :=
  (∀ (s : State) (c : Claim) (older younger : List Claim), s.running = true → s.steady = true → s.balanceKept = true →
    s.bla.queue = older ++ c :: younger → (∀ d ∈ older, d.state ≠ .waiting) → c.state = .waiting →
    (s.bla.queue.map fun d => d.id).Nodup →
    ∃ t, exec .claimGrant s = .next t
      ∧ if (s.bla.queue.filter fun d => d.state ≠ .waiting).length < 2
            ∧ (∀ i ∈ c.shoes, s.sht[i].state = .bearing ∧ s.sht[i].owner = none)
            ∧ (∀ q : Fin 4, (if s.stc.phase.isOpen then s.lim.a.quadAdvance else s.lim.a.quadIdle)
                ≤ ((allShoes.filter fun i => s.sht[i].state = .bearing ∧ i ∉ c.shoes ∧ quadrant i = q)).length)
            ∧ (if s.stc.phase.isOpen then s.lim.a.totalAdvance else s.lim.a.totalIdle)
                ≤ ((allShoes.filter fun i => s.sht[i].state = .bearing ∧ i ∉ c.shoes)).length then
          t = { s with bla := t.bla, sht := t.sht, ntu := t.ntu }
            ∧ (∀ i ∈ c.shoes, t.sht[i] = { s.sht[i] with
                state := .retracting, owner := some c.id, timer := ⟨if s.pins.estop then .paused else .running, 0⟩ })
            ∧ t.tells .erector (.claim c.id .granted c.kind c.piece)
            ∧ { c with state := .retracting } ∈ t.bla.queue
            ∧ ((∀ d ∈ younger, d.state ≠ .waiting) →
              t.bla = { s.bla with queue := older ++ { c with state := .retracting } :: younger }
              ∧ (∀ i : ShoeIndex, i ∉ c.shoes → t.sht[i] = s.sht[i])
              ∧ t.ntu = s.noted [.claim c.id .granted c.kind c.piece])
        else t = s)
  ∧ ∀ (s : State) (i : ShoeIndex) (c : Claim), s.running = true → s.steady = true →
      s.pins.retracted[i] = false → s.pins.seated[i] = false → s.sht[i].state = .retracting →
      c ∈ s.bla.queue → c.state = .retracting → i ∈ c.shoes → (s.bla.queue.map fun d => d.id).Nodup →
      ∃ t, exec (.retractedLimitChange i true) s = .next t ∧ t.sht[i].state = .clear
        ∧ if ∀ j ∈ c.shoes, j ≠ i → s.sht[j].state = .clear then
            ({ c with state := .clear } : Claim) ∈ t.bla.queue ∧ t.tells .erector (.claim c.id .clear c.kind c.piece)
          else c ∈ t.bla.queue

/-- Section 4.4: CLAIM_DONE of a CLEAR claim whose shoes are not seated yet. The claim goes to CLAMPING and each of its shoes
extends under it; a WITHDRAW claim takes the top entry off the stack. The answer gives the claim's state for either kind, for a
WITHDRAW claim by the model's choice (log 15). An id above 7 is a bad value, and a claim that is not in the queue or not CLEAR
is refused. -/
def Obligations.ClaimDoneClampsTheShoes : Prop :=
  ∀ (s : State) (n : Nat), s.hears .erector = true → s.configured = true → n < 65536 → s.claimsFollow = true →
    s.balanceKept = true → s.nothingWaits = true → (s.bla.queue.map fun d => d.id).Nodup →
    ∃ t, exec (.claimDone .erector (num2 n)) s = .next t
      ∧ (8 ≤ n → s.refusedWith t .erector .badValue)
      ∧ (n < 8 → (∀ c ∈ s.bla.queue, c.id.val = n → c.state ≠ .clear) → s.refusedWith t .erector .wrongState)
      ∧ ∀ c ∈ s.bla.queue, c.id.val = n → c.state = .clear → 1 ≤ c.span → c.span ≤ 16 →
        (∀ i ∈ c.shoes, s.sht[i].state = .clear ∧ s.pins.seated[i] = false) →
        t = { s with
            bla := { s.bla with queue := s.bla.queue.map fun d => if d.id = c.id then { d with state := .clamping } else d },
            rst := if c.kind = .withdraw then
                { s.rst with build := s.rst.build.map fun b => { b with stack := b.stack.dropLast } } else s.rst,
            sht := t.sht, lif := t.lif }
        ∧ (∀ i : ShoeIndex, t.sht[i] = if i ∈ c.shoes then s.extended i else s.sht[i])
        ∧ s.armedAfter t .erector ∧ t.answered .erector ⟨.ok, [3#8]⟩

/-- Sections 4.4, 4.5, 4.8 and 4.9: the last shoe of a CLAMPING claim seats. The claim leaves the queue, its shoes lose their
owner, a PLACE claim pushes its piece with the travel at seating, and Link E is told; the ring closes into DONE if it holds
all its pieces with the key on top and the queue is empty, and a ring waiting ENDED follows into BUILD. -/
def Obligations.LastShoeSeatsCompletesClaim : Prop :=
  ∀ (s : State) (i : ShoeIndex) (c : Claim) (b : BuiltRing), s.running = true → s.steady = true →
    s.pins.seated[i] = false → s.pins.retracted[i] = false → s.sht[i].state = .extending →
    c ∈ s.bla.queue → c.state = .clamping → i ∈ c.shoes → c.span ≤ 16 →
    (∀ j ∈ c.shoes, j ≠ i → s.sht[j].state = .bearing) → s.rst.build = some b →
    (s.bla.queue.map fun d => d.id).Nodup → s.nothingWaits = true →
    (∀ d ∈ s.bla.queue, d.id ≠ c.id → i ∉ d.shoes) → s.claimsFollow = true →
    ∃ t, exec (.seatedAsserts i) s = .next t
      ∧ ∀ travel pushed, travel = (if s.stc.phase.isOpen then s.stc.highWater / 10 else 0) →
        pushed = (if c.kind = .place then { b with stack := b.stack ++ [⟨c.piece, travel⟩] } else b) →
        t.bla = { s.bla with queue := s.bla.queue.filter fun d => d.id ≠ c.id }
        ∧ t.sht[i].state = .bearing
        ∧ (∀ j ∈ c.shoes, t.sht[j].owner = if s.sht[j].owner = some c.id then none else s.sht[j].owner)
        ∧ t.tells .erector (.claim c.id (.completed (if c.kind = .place then some travel else none)) c.kind c.piece)
        ∧ if pushed.complete = true ∧ t.bla.queue = [] then
            t.rst.done = some pushed ∧ t.rst.plan = s.rst.plan
            ∧ (∀ m, t.tells m (.ringClosed b.number))
            ∧ (if s.stc.phase = .ended then t.rst.build = s.rst.stroke.map StrokeRing.toBuilt ∧ t.rst.stroke = none
               else t.rst.build = none ∧ t.rst.stroke = s.rst.stroke)
          else t.rst = { s.rst with build := some pushed }

/-- Section 4.5: CANCEL. A WAITING claim leaves the queue at once; a RETRACTING, CLEAR or FAULTED one whose shoes are not
seated goes to RETURNING with its RETRACTING and CLEAR shoes extending; a CLAMPING or RETURNING one is refused, as is an id
no claim holds, and an id above 7 is a bad value. A RETURNING claim leaves the queue in the event in which the last of its
shoes seats or faults, its shoes released, and Link E is told which of them are in FAULT. -/
def Obligations.CancelGivesUpTheClaim : Prop :=
  (∀ (s : State) (n : Nat), s.hears .erector = true → s.configured = true → n < 65536 → s.claimsFollow = true →
    s.balanceKept = true → (s.bla.queue.map fun d => d.id).Nodup →
    ∃ t, exec (.cancel .erector (num2 n)) s = .next t
      ∧ (8 ≤ n → s.refusedWith t .erector .badValue)
      ∧ (n < 8 → (∀ c ∈ s.bla.queue, c.id.val ≠ n) → s.refusedWith t .erector .wrongState)
      ∧ ∀ c ∈ s.bla.queue, c.id.val = n → (∀ d ∈ s.bla.queue, d.id ≠ c.id → d.state ≠ .waiting) →
        (c.state = .clamping ∨ c.state = .returning → s.refusedWith t .erector .wrongState)
        ∧ (c.state = .waiting → (∀ i : ShoeIndex, s.sht[i].owner ≠ some c.id) →
            (∀ b, s.rst.build = some b → b.complete = false) →
          t = { s with bla := { s.bla with queue := s.bla.queue.filter fun d => d.id ≠ c.id }, lif := t.lif }
          ∧ s.armedAfter t .erector ∧ t.answered .erector ⟨.ok, [7#8]⟩)
        ∧ (c.state = .retracting ∨ c.state = .clear ∨ c.state = .faulted → c.span ≤ 16 →
            (∀ i ∈ c.shoes, s.pins.seated[i] = false) →
            (∃ i ∈ c.shoes, s.sht[i].state = .retracting ∨ s.sht[i].state = .clear ∨ s.sht[i].state = .extending) →
          t = { s with
              bla := { s.bla with
                queue := s.bla.queue.map fun d => if d.id = c.id then { d with state := .returning } else d },
              sht := t.sht, lif := t.lif }
          ∧ (∀ i : ShoeIndex, t.sht[i] =
              if i ∈ c.shoes ∧ (s.sht[i].state = .retracting ∨ s.sht[i].state = .clear) then s.extended i else s.sht[i])
          ∧ s.armedAfter t .erector ∧ t.answered .erector ⟨.ok, [4#8]⟩))
  ∧ ∀ (s : State) (i : ShoeIndex) (c : Claim), s.running = true → s.steady = true → s.sht[i].state = .extending →
      c ∈ s.bla.queue → c.state = .returning → i ∈ c.shoes → (s.bla.queue.map fun d => d.id).Nodup →
      (∀ j ∈ c.shoes, j ≠ i → s.sht[j].state = .bearing ∨ s.sht[j].state = .fault) →
      (s.pins.seated[i] = false → s.pins.retracted[i] = false →
        ∃ t, exec (.seatedAsserts i) s = .next t
          ∧ t.claimReturned c (c.shoes.filter fun j => j ≠ i ∧ s.sht[j].state = .fault))
      ∧ (s.sht[i].timer.run = .running → s.lim.a.extend ≤ s.sht[i].timer.elapsed →
        ∃ t, exec (.moveTimeout i) s = .next t
          ∧ t.claimReturned c (c.shoes.filter fun j => j = i ∨ s.sht[j].state = .fault))

/-! ## Face and trains -/

/-- Sections 5.2, 5.3 and 7.6: a screw pulse counts into the stroke's N, with the removed volume computed anew, or into the
idle count while no stroke is open; the same pulse counts into the loading train or the unassigned count; each saturates. -/
def Obligations.ScrewPulseCountsTwice : Prop :=
  ∀ (s : State), s.running = true → s.steady = true →
    ∃ t, exec .screwPulse s = .next t
      ∧ t = { s.withHold t.hold with
          bal := if s.stc.phase.isOpen then { s.bal with screw := min (s.bal.screw + 1) 16777215 }
            else { s.bal with idle := min (s.bal.idle + 1) 16777215 },
          rst := { s.rst with
            stroke := if s.stc.phase.isOpen then s.rst.stroke.map (fun r => { r with result := { r.result with
                removed := min (t.bal.screw * s.geo.volumePerRev * r.face.fill / (s.geo.pulsesPerRev * 1000)) 4294967295 } })
              else s.rst.stroke },
          spm := t.spm, ntu := s.noted (s.trainNews t s.loadingUrgent ++ s.holdNews t.hold) }
      ∧ t.hold = { s.hold with noTrain := t.hold.noTrain, trainFull := t.hold.trainFull }
      ∧ t.trainsJudged
      ∧ t.spm = { s.spm with
          loading := t.spm.loading,
          unassigned := if s.spm.loading = none then min (s.spm.unassigned + 1) 16777215 else s.spm.unassigned }
      ∧ t.spm.loading.map (fun r => { r with urgent := false })
        = s.spm.loading.map (fun r => { r with fillPulses := min (r.fillPulses + 1) 16777215, urgent := false })

/-- Sections 7.2, 7.3 and 6.2: FACE_PRESSURE stores the value, at most 1,000, with age 0 and the staleness timer at 0, and
removes FACE_STALE. Against the band in force, STROKE's while a stroke is open and PLAN's otherwise: outside the band it
raises FACE_BAND, and while a slice is open sets the flag and cuts the ceiling of a slice not yet cut; FACE_LIMIT follows the
hard limits. With no band in force it judges nothing and answers the three judgements as no (the model's choice, log 15). The
staleness timer at T_stale while a stroke is open adds FACE_STALE, which moves ADVANCING to HELD; short of it, or with no stroke open, the command is void (log 5). -/
def Obligations.FacePressureAndStaleness : Prop :=
  (∀ (s : State) (n : Nat), s.hears .spoil = true → n < 65536 →
     (s.stc.phase.isOpen = true → s.rst.stroke ≠ none) →
     ∃ t, exec (.facePressure .spoil (num2 n)) s = .next t ∧ s.heardOn t .spoil
       ∧ t.spm = { s.spm with
           pressure := some (min n 1000), age := some 0, stale := { s.spm.stale with elapsed := 0 } }
       ∧ (s.bandInForce = none →
           t = { s.withHold { s.hold with faceStale := false } with
               spm := t.spm, ntu := s.noted (s.holdNews t.hold), lif := t.lif }
             ∧ t.answered .spoil ⟨.ok, num2 (min n 1000) ++ [0#8, 0#8, 0#8]⟩)
       ∧ (s.bandInForce = none ↔ s.stc.phase.isOpen = false ∧ s.rst.plan = none)
       ∧ ∀ band, s.bandInForce = some band → ∀ f, f = band.1 → ∀ source, source = band.2.1 → ∀ ring, ring = band.2.2 →
           ∀ outside hard cut, outside = (decide (min n 1000 < f.low) || decide (f.high < min n 1000)) →
             hard = (decide (min n 1000 < f.low - f.margin) || decide (f.high + f.margin < min n 1000)) →
             cut = (outside && s.stc.phase.sliceOpen && !s.rgv.cutMark) →
           t = { s.withHold { s.hold with faceStale := false, faceLimit := hard } with
               spm := t.spm,
               rst := { s.rst with
                 stroke := if outside && s.stc.phase.sliceOpen
                   then s.rst.stroke.map (fun r => { r with flags := { r.flags with faceExcursion := true } })
                   else s.rst.stroke },
               rgv := if cut then { s.rgv with
                   ceiling := s.lim.a.ceilingFloor, threshold := max (s.rgv.ceiling / 2) s.lim.a.ceilingFloor,
                   cutMark := true } else s.rgv,
               ntu := s.noted ((if outside then [.faceBand (min n 1000) f.low f.high source ring s.stc.phase.sliceOpen] else [])
                 ++ (if cut then [.rateCut .faceBand s.rgv.ceiling t.rgv.ceiling t.rgv.threshold ring
                     ((s.stc.slice.map fun k => k.index).getD 0)] else [])
                 ++ s.holdNews t.hold),
               lif := t.lif }
             ∧ t.answered .spoil ⟨.ok, num2 (min n 1000) ++ choice outside ++ choice hard ++ choice cut⟩
             ∧ (s.stc.phase.isOpen = true →
                 source = .stroke ∧ some (ring, f) = s.rst.stroke.map (fun r => (r.number, r.face)))
             ∧ (s.stc.phase.isOpen = false →
                 source = .plan ∧ some (ring, f) = s.rst.plan.map (fun p => (p.number, p.face))))
  ∧ ∀ (s : State), s.running = true → s.steady = true →
      exec .stalenessTimeout s = .next
        (if s.stc.phase.isOpen = true ∧ s.lim.s.stale ≤ s.spm.stale.elapsed then
          { s.withHold { s.hold with faceStale := true } with
            ntu := s.noted (s.holdNews { s.hold with faceStale := true }) }
         else s)

/-- Section 7.6: TRAIN_IN and TRAIN_DEPART. A train enters LOADING with the unassigned pulses, or STANDBY; a capacity or a
number out of range, a number that stands already and two full slots are refused (a number above 255 by the model's choice,
log 17). The answer's bytes, the fill pulses as a field present for LOADING and absent for STANDBY, are the model's choice
(log 15). The LOADING train departs, the STANDBY train moves up, and NO_TRAIN, TRAIN_FULL and urgency are judged. -/
def Obligations.TrainsComeAndGo : Prop :=
  (∀ (s : State) (number capacity : Nat), s.hears .spoil = true → number < 65536 → capacity < 4294967296 →
    ∃ t, exec (.trainIn .spoil (num2 number ++ num4 capacity)) s = .next t
      ∧ ∀ r, r = s.newTrain number capacity →
        if capacity < 10000 ∨ 2000000 < capacity ∨ 255 < number then s.refusedWith t .spoil .badValue
        else if (∃ o ∈ s.spm.loading.toList ++ s.spm.standby.toList, o.number = number) then
          s.refusedWith t .spoil .wrongState
        else if s.spm.loading = none then
          t = { s.withHold t.hold with
              spm := { s.spm with
                loading := some { r with fillPulses := min s.spm.unassigned 16777215, urgent := s.urgentLoad r },
                unassigned := 0 },
              ntu := s.noted (s.trainNews t false ++ s.holdNews t.hold), lif := t.lif }
            ∧ t.hold = { s.hold with noTrain := false, trainFull := t.hold.trainFull } ∧ t.trainsJudged
            ∧ s.heardOn t .spoil
            ∧ t.answered .spoil ⟨.ok, [0#8] ++ optional num4 r.capacityPulses ++ [1#8]
                ++ num4 (min s.spm.unassigned 16777215)⟩
        else if s.spm.standby = none then
          t = { s with spm := { s.spm with standby := some r }, lif := t.lif } ∧ s.heardOn t .spoil
            ∧ t.answered .spoil ⟨.ok, [1#8] ++ optional num4 r.capacityPulses ++ [0#8]⟩
        else s.refusedWith t .spoil .full)
  ∧ ∀ (s : State), s.hears .spoil = true →
    ∃ t, exec (.trainDepart .spoil []) s = .next t
      ∧ (s.spm.loading = none → s.refusedWith t .spoil .wrongState)
      ∧ ∀ r, s.spm.loading = some r →
          t = { s.withHold t.hold with
              spm := t.spm, ntu := s.noted (s.trainNews t (s.spm.standby.any fun o => o.urgent) ++ s.holdNews t.hold),
              lif := t.lif }
            ∧ t.hold = { s.hold with noTrain := t.hold.noTrain, trainFull := t.hold.trainFull } ∧ t.trainsJudged
            ∧ t.spm = { s.spm with
                loading := t.spm.loading, standby := none,
                unassigned := if s.spm.standby = none then s.spm.unassigned else 0 }
            ∧ t.spm.loading.map (fun o => { o with urgent := false })
              = s.spm.standby.map (fun o =>
                  { o with fillPulses := min (o.fillPulses + s.spm.unassigned) 16777215, urgent := false })
            ∧ s.heardOn t .spoil
            ∧ t.answered .spoil ⟨.ok, num2 r.number ++ num4 r.capacity ++ optional num4 r.capacityPulses
                ++ num4 r.fillPulses ++ num4 (r.fill s.geo)⟩

/-! ## Grout -/

/-- Sections 8.3, 5.2, 8.5 and 8.6: a pump pulse. Against a closed valve it is dead: Link G is told the line's state, its debt
and the first reason that holds, and nothing else changes. Against an open valve it lowers the debt by the displacement, counts
for the stroke's volumes, and for the slice's while one is open, restarts an OPEN line's no-pulse timer and brings a PROBING
line back to OPEN; the valve and GROUT_DEBT are judged, and in DRAINING the drain condition, which may end the stroke (that a
valve closed by its own pulse leaves the no-pulse timer at 0 is log 9). -/
def Obligations.PumpPulseIsCountedOrDead : Prop :=
  ∀ (s : State) (i : LineIndex), s.running = true → s.steady = true →
    (s.grs[i].valve = false →
      exec (.pumpPulse i) s = .next { s with
        ntu := s.noted [.pumpDead i s.grs[i].state s.grs[i].debt
          (if s.stc.phase.isOpen = false then .noStroke
           else if s.grs[i].state ≠ .opened ∧ s.grs[i].state ≠ .probing then .lineState
           else if s.grs[i].debt ≤ 0 then .noDebt
           else if s.pins.estop then .estop else .groutLapse)] })
    ∧ (s.grs[i].valve = true → s.stc.phase.isOpen = true →
      ∃ t, exec (.pumpPulse i) s = .next t
        ∧ t.bal = { s.bal with
            strokePulses := s.bal.strokePulses.set i.val (min (s.bal.strokePulses[i] + 1) 4294967295) i.isLt,
            slicePulses := if s.stc.phase.sliceOpen
              then s.bal.slicePulses.set i.val (min (s.bal.slicePulses[i] + 1) 4294967295) i.isLt else s.bal.slicePulses }
        ∧ ∀ paid, paid = (fun x : StrokeResult => { x with
            grout := x.grout.set i.val (min (t.bal.strokePulses[i] * s.geo.displacement[i]) 4294967295) i.isLt,
            groutTotal := min (allLines.map fun j => t.bal.strokePulses[j] * s.geo.displacement[j]).sum 4294967295 }) →
        ∀ debts, debts = s.lineDebts.set i.val
            (max (-32768) (min 32767 (s.grs[i].debt - s.geo.displacement[i]))) i.isLt →
        ∀ states, states = s.lineStates.set i.val
            (if s.grs[i].state = .probing then .opened else s.grs[i].state) i.isLt →
        if s.stc.phase = .draining ∧ s.settledWith states debts = true then
          ∀ r, s.rst.stroke = some r →
            s.endsWith t { r with result := paid r.result } states debts ∧ t.rgv = s.rgv ∧ s.rearmed t
        else
          t = { s.withHold { s.hold with groutDebt :=
                  if s.lim.g.debt < t.totalDebt then true else if 2 * t.totalDebt ≤ s.lim.g.debt then false
                  else s.hold.groutDebt } with
              grs := t.grs, bal := t.bal, rst := { s.rst with stroke := t.rst.stroke },
              ntu := s.noted ((if s.grs[i].state = .probing then [.line i (.opened s.grs[i].probes)] else [])
                ++ s.holdNews t.hold) }
          ∧ (∀ j : LineIndex, j ≠ i → t.grs[j] = s.grs[j])
          ∧ t.lineDebts = debts ∧ t.lineStates = states
          ∧ t.grs[i].valve = t.valveWanted i
          ∧ (s.grs[i].state = .probing → t.grs[i].backoff = s.lim.g.backoff ∧ t.grs[i].probes = 0
            ∧ t.grs[i].window.run = .stopped)
          ∧ (t.grs[i].state = .opened → t.grs[i].noPulse = ⟨if t.grs[i].valve then .running else .stopped, 0⟩)
          ∧ t.rst.stroke = s.rst.stroke.map fun r => { r with result := paid r.result })

/-- Section 8.4: LINE_PRESSURE stores each value, at most 2,000, for the lines named, and judges their blockage in the one
event: an OPEN line with its valve open, its pressure at or above its ceiling and no pulse for T_block is BLOCKED. It answers
OK with, for each line named, the value as stored and the line's state. A line outside L0..L5 or named twice refuses the
whole. A blockage changes no debt, so in DRAINING no drain that was not due becomes due. -/
def Obligations.LinePressureStoresAndBlocks : Prop :=
  ∀ (s : State) (pairs : List (Nat × Nat)), s.hears .grout = true → s.configured = true → 1 ≤ pairs.length →
    pairs.length ≤ 6 → (∀ p ∈ pairs, p.1 < 256 ∧ p.2 < 65536) → (s.stc.phase = .draining → s.drained = false) →
    ∃ t, exec (.linePressure .grout (pairs.flatMap fun p => num1 p.1 ++ num2 p.2)) s = .next t
      ∧ if (pairs.map Prod.fst).Nodup ∧ ∀ p ∈ pairs, p.1 < 6 then
          t = { s with grs := t.grs, ntu := t.ntu, lif := t.lif } ∧ s.heardOn t .grout
          ∧ t.answered .grout ⟨.ok, num1 pairs.length ++ pairs.flatMap fun p => num2 (min p.2 2000)
              ++ (allLines.filter fun i => i.val = p.1).flatMap fun i => num1 t.grs[i].state.ordinal⟩
          ∧ (∀ i : LineIndex, (∀ p ∈ pairs, p.1 ≠ i.val) → t.grs[i] = s.grs[i])
          ∧ ∀ p ∈ pairs, ∀ i : LineIndex, i.val = p.1 →
            if s.grs[i].state = .opened ∧ s.grs[i].valve = true ∧ s.lineCeiling i ≤ min p.2 2000
                ∧ s.grs[i].noPulse.run = .running ∧ s.lim.g.block ≤ s.grs[i].noPulse.elapsed then
              s.blockedAt t i (min p.2 2000) (s.lineCeiling i)
            else t.grs[i] = { s.grs[i] with pressure := some (min p.2 2000) }
        else s.refusedWith t .grout .badValue

/-- Sections 8.5 and 8.6 (LINE_CLEAR): a FAILED line goes to OPEN while a stroke is open and to CLOSED otherwise, with the
backoff at B0, no probe counted and its debt as it stands, and its valve judged; in DRAINING the drain condition is judged with
the line no longer excused, and may end the stroke. The answer gives the line's state and debt at the end of the event. A line
that is not FAILED is refused, and a line outside L0..L5 is a bad value. -/
def Obligations.LineClearRestoresLine : Prop :=
  ∀ (s : State) (line : Byte), s.hears .grout = true → s.configured = true →
    ∃ t, exec (.lineClear .grout [line]) s = .next t
      ∧ (6 ≤ line.toNat → s.refusedWith t .grout .badValue)
      ∧ ∀ i : LineIndex, i.val = line.toNat →
        if s.grs[i].state = .failed then
          t.answered .grout ⟨.ok, num1 t.grs[i].state.ordinal ++ debt2 t.grs[i].debt⟩
          ∧ ∀ states, states = s.lineStates.set i.val .opened i.isLt →
          if s.stc.phase = .draining ∧ s.settledWith states s.lineDebts = true then
            ∀ r, s.rst.stroke = some r →
              s.endsWith t r states s.lineDebts ∧ t.bal = s.bal ∧ t.rgv = s.rgv ∧ s.armedAfter t .grout
          else
            t = { s.withHold { s.hold with groutDebt :=
                    if s.lim.g.debt < s.totalDebt then true else if 2 * s.totalDebt ≤ s.lim.g.debt then false
                    else s.hold.groutDebt } with
                grs := t.grs, ntu := s.noted (s.holdNews t.hold), lif := t.lif }
              ∧ (∀ j : LineIndex, j ≠ i → t.grs[j] = s.grs[j])
              ∧ t.grs[i] = { s.grs[i] with
                  state := if s.stc.phase.isOpen then .opened else .closed, backoff := s.lim.g.backoff, probes := 0,
                  valve := t.grs[i].valve, noPulse := t.grs[i].noPulse }
              ∧ t.grs[i].valve = t.valveWanted i
              ∧ (s.grs[i].valve = false → t.grs[i].valve = true → t.grs[i].noPulse = ⟨.running, 0⟩)
              ∧ s.heardOn t .grout
        else s.refusedWith t .grout .wrongState

/-- Sections 8.4 to 8.6: the expiry of a line's timers. No pulse for T_block blocks an OPEN line under pressure; a backoff that
has run out sends a BLOCKED line to PROBING with its valve judged; a probe window that has run out fails the probe, back to
BLOCKED with the backoff doubled up to 60,000 ms, or to FAILED at the fifth. In DRAINING the drain condition is judged with the
line's new state, so that the failure of the last line that owes ends the stroke. Short of its limit each command is void
(log 5). -/
def Obligations.LineTimersExpire : Prop :=
  ∀ (s : State) (i : LineIndex), s.running = true → s.steady = true →
    (s.stc.phase = .draining → s.drained = false) →
    (∃ t, exec (.noPulseTimeout i) s = .next t
      ∧ if s.pressed i (s.lineCeiling i) = true
            ∧ s.grs[i].noPulse.run = .running ∧ s.lim.g.block ≤ s.grs[i].noPulse.elapsed then
          t = { s with grs := t.grs, ntu := t.ntu } ∧ s.blockedAt t i (s.grs[i].pressure.getD 0) (s.lineCeiling i)
            ∧ ∀ j : LineIndex, j ≠ i → t.grs[j] = s.grs[j]
        else t = s)
    ∧ (∃ t, exec (.backoffExpiry i) s = .next t
      ∧ if s.grs[i].state = .blocked ∧ s.grs[i].backoffTimer.run = .running
            ∧ s.grs[i].backoff ≤ s.grs[i].backoffTimer.elapsed then
          t = { s with grs := t.grs } ∧ (∀ j : LineIndex, j ≠ i → t.grs[j] = s.grs[j])
          ∧ t.grs[i] = { s.grs[i] with
              state := .probing, valve := t.valveWanted i, noPulse := t.grs[i].noPulse,
              backoffTimer := { s.grs[i].backoffTimer with run := .stopped },
              window := ⟨if s.pins.estop || s.hold.groutLapse then .paused else .running, 0⟩ }
        else t = s)
    ∧ ∃ t, exec (.probeWindowExpiry i) s = .next t
      ∧ if s.grs[i].state = .probing ∧ s.grs[i].window.run = .running ∧ s.lim.g.probe ≤ s.grs[i].window.elapsed then
          ∀ states, states = s.lineStates.set i.val (if s.grs[i].probes + 1 < 5 then .blocked else .failed) i.isLt →
          if s.stc.phase = .draining ∧ s.settledWith states s.lineDebts = true then
            (∀ r, s.rst.stroke = some r → s.endsWith t r states s.lineDebts ∧ t.bal = s.bal ∧ t.rgv = s.rgv ∧ s.rearmed t)
            ∧ t.tells .grout (.line i (.failed s.grs[i].debt))
          else
            t = { s with grs := t.grs, ntu := t.ntu } ∧ (∀ j : LineIndex, j ≠ i → t.grs[j] = s.grs[j])
            ∧ t.grs[i].valve = false ∧ t.grs[i].probes = s.grs[i].probes + 1 ∧ t.grs[i].debt = s.grs[i].debt
            ∧ t.grs[i].window.run = .stopped
            ∧ if s.grs[i].probes + 1 < 5 then
                t.grs[i].state = .blocked ∧ t.grs[i].backoff = min (2 * s.grs[i].backoff) 60000
                ∧ t.grs[i].backoffTimer = ⟨if s.pins.estop then .paused else .running, 0⟩
                ∧ t.ntu = s.noted [.line i (.blockedAgain (s.grs[i].probes + 1) (min (2 * s.grs[i].backoff) 60000))]
              else t.grs[i].state = .failed ∧ t.grs[i].backoff = s.grs[i].backoff
                ∧ t.grs[i].backoffTimer.run = .stopped ∧ t.ntu = s.noted [.line i (.failed s.grs[i].debt)]
        else t = s

/-! ## The silence sequence -/

/-- Section 9.3: the silence timer of a watched link at T_silent starts the checks, each 1,000 ms raises the next, and the
third lapses the link: its hold cause enters the set, all lists are told, Link E's WAITING claims are dropped, and Link G's
valves close with its probe windows paused. Short of its limit each command is void (log 5). -/
def Obligations.SilenceChecksThenLapse : Prop :=
  ∀ (s : State) (l : Link) (c : Silence), s.running = true → s.steady = true → c = (s.lif.get l).silence →
    (exec (.silenceTimeout l) s = .next
      (if c.phase = .watching ∧ c.silenceTimer.run = .running ∧ s.silentLimit l ≤ c.silenceTimer.elapsed then
        { s with
          lif := s.lif.set l { s.lif.get l with silence :=
            ⟨c.armed, .checking, 1, { c.silenceTimer with run := .stopped }, ⟨.running, 0⟩⟩ },
          ntu := s.noted [.silenceCheck l 1 (s.silentLimit l)] }
       else s))
    ∧ ∃ t, exec (.checkTimerExpiry l) s = .next t
      ∧ if c.phase = .checking ∧ c.checkTimer.run = .running ∧ 1000 ≤ c.checkTimer.elapsed then
          if c.checks < 3 then
            t = { s with
              lif := s.lif.set l { s.lif.get l with silence := { c with checks := c.checks + 1, checkTimer := ⟨.running, 0⟩ } },
              ntu := s.noted [.silenceCheck l (c.checks + 1) (s.silentLimit l)] }
          else
            (t.lif.get l).silence.phase = .lapsed ∧ (t.lif.get l).silence.checks = 0
            ∧ (t.lif.get l).silence.checkTimer.run = .stopped
            ∧ (∀ m, t.tells m (.lapse l true))
            ∧ (l = .advance → t = { s.withHold { s.hold with advanceLapse := true } with
                    lif := t.lif, ntu := s.noted (.lapse l true :: s.holdNews t.hold) })
            ∧ (l = .spoil → t = { s with lif := t.lif, ntu := s.noted [.lapse l true] })
            ∧ (l = .grout → t = { s.withHold { s.hold with groutLapse := true } with
                    grs := t.grs, lif := t.lif, ntu := s.noted (.lapse l true :: s.holdNews t.hold) }
                  ∧ ∀ i : LineIndex, t.grs[i] = { s.grs[i] with
                      valve := false, noPulse := if s.grs[i].valve then s.grs[i].noPulse.stop else s.grs[i].noPulse,
                      window := s.grs[i].window.pause })
            ∧ (l = .erector → t.hold.erectorLapse = true ∧ t.nothingWaits = true
                  ∧ (s.claimsFollow = true → s.balanceKept = true →
                      (∀ b, s.rst.build = some b → b.complete = false) → (s.bla.queue.map fun d => d.id).Nodup →
                    t = { s.withHold { s.hold with erectorLapse := true } with
                        bla := { s.bla with queue := s.bla.queue.filter fun d => d.state ≠ .waiting },
                        sht := t.sht, lif := t.lif, ntu := t.ntu }
                    ∧ ∀ d ∈ s.bla.queue, d.state = .waiting → t.tells .erector (.claim d.id .dropped d.kind d.piece)))
        else t = s

/-! ## What every step keeps -/

/-- Sections 1.4, 2.8, 3.6, 4.10, 6.6, 7.7, 8.7 and 9.4: the state a reset leaves, from any levels of the input lines, meets
every law of the device; so does `State.reset`. -/
def Obligations.ResetMeetsEveryLaw : Prop :=
  ∀ (pending : List Instr) (pins : Pins) (cause : ResetCause) (s : State),
    s = State.resetWith pending pins none cause [restartRecord cause] ∨ s = State.reset →
    s.noticeLaw ∧ s.governorLaw ∧ s.outputLaw ∧ s.linkLaw ∧ s.storeLaw ∧ s.buildLaw ∧ s.recordLaw

/-- Section 9.1: no notice list ever holds two records with the same kind and subject. -/
def Obligations.NoticeLawKept : Prop :=
  ∀ (s t : State), s.noticeLaw → step s = .next t → t.noticeLaw

/-- Sections 6.1, 6.2 and 11.2: the ceiling and the threshold always lie between C_floor and C_max, and the cut-this-slice mark
is no while no slice is open. -/
def Obligations.GovernorLawKept : Prop :=
  ∀ (s t : State), s.governorLaw → step s = .next t → t.governorLaw

/-- Sections 2.4, 3.5, 7.5 and 8.3: the laws of the outputs. The stroke follows its hold-cause set, BALANCE the bearing
counts, NO_TRAIN and TRAIN_FULL the loading train, and a valve is open exactly while its five conditions hold. While the
permit is asserted a ring is in STROKE, the set is empty, ESTOP_N is released, and the counts meet the advance set. -/
def Obligations.OutputLawKept : Prop :=
  (∀ (s t : State), s.outputLaw → step s = .next t → t.outputLaw)
  ∧ ∀ (s : State), s.outputLaw → s.running = true → s.permit = true →
    s.rst.stroke ≠ none ∧ s.hold = HoldSet.empty ∧ s.pins.estop = false
    ∧ (∀ q : Fin 4, s.lim.a.quadAdvance
        ≤ (allShoes.filter fun i => s.sht[i].state = .bearing ∧ quadrant i = q).length)
    ∧ s.lim.a.totalAdvance ≤ (allShoes.filter fun i => s.sht[i].state = .bearing).length

/-- Section 9.3: a link is armed exactly while the part depends on its master, and its lapse cause is in the set exactly
while it is in lapse. -/
def Obligations.LinkLawKept : Prop :=
  ∀ (s t : State), s.linkLaw → step s = .next t → t.linkLaw

/-- Sections 1.1 and 1.3: the occupied slots hold consecutive ring numbers, PLAN is occupied while the part is configured, no
grout entry is lost from the pool of 32 or held twice, and every chain of PLAN is in order. -/
def Obligations.StoreLawKept : Prop :=
  ∀ (s t : State), s.storeLaw → step s = .next t → t.storeLaw

/-- Sections 3.3, 4.1 and 4.8: the queue holds at most four claims, two of them active, a WITHDRAW alone; a shoe that is
RETRACTING or CLEAR belongs to an active claim; the stack holds distinct planned pieces with the key on top of all. -/
def Obligations.BuildLawKept : Prop :=
  ∀ (s t : State), s.buildLaw → step s = .next t → t.buildLaw

/-- Sections 2.6, 4.9, 5.3 and 8.6: p never passes h, the excavated volume is that of h, a ring in DONE holds all its pieces
with the key on top, and a ring without GROUT_SHORT fell short of no line's displacement. -/
def Obligations.RecordLawKept : Prop :=
  ∀ (s t : State), s.recordLaw → step s = .next t → t.recordLaw
end

