-- ==== Sys2Proof/Laws/Operands.lean ====
section
/-! SUPPORT. The operand forms: what a field written most significant byte first reads back as, the ranges of clamped and
saturated values, the spans of shoes, the fixed tables, and the frame of a request. -/

namespace Sys2Proof.Machine

/-! ## Arithmetic -/

theorem sat_le (top n : Nat) : sat top n ≤ top := Nat.min_le_right _ _

theorem sat_of_le {top n : Nat} (h : n ≤ top) : sat top n = n := Nat.min_eq_left h

theorem clamp_mem {lo hi : Nat} (n : Nat) (h : lo ≤ hi) : lo ≤ clamp lo hi n ∧ clamp lo hi n ≤ hi := by
  unfold clamp; omega

theorem clamp_of_mem {lo hi n : Nat} (h : lo ≤ n ∧ n ≤ hi) : clamp lo hi n = n := by unfold clamp; omega

theorem clamp_eq_iff {lo hi n : Nat} (h : lo ≤ hi) : clamp lo hi n = n ↔ lo ≤ n ∧ n ≤ hi := by unfold clamp; omega

theorem satDebt_mem (x : Int) : -32768 ≤ satDebt x ∧ satDebt x ≤ 32767 := by unfold satDebt; omega

theorem satDebt_of_mem {x : Int} (h : -32768 ≤ x ∧ x ≤ 32767) : satDebt x = x := by unfold satDebt; omega

/-- Rounding up: the least count whose product reaches the value. -/
theorem ceilDiv_le_iff {a b n : Nat} (hb : 0 < b) : ceilDiv a b ≤ n ↔ a ≤ n * b := by
  unfold ceilDiv
  rw [Nat.div_le_iff_le_mul_add_pred hb, Nat.mul_comm b n]
  omega

@[simp] theorem mapAll_get {α β : Type} {n : Nat} (f : α → β) (v : Vector α n) (i : Fin n) :
    (mapAll f v)[i] = f v[i] := by simp [mapAll]

/-! ## Bytes of fields -/

@[simp] theorem num1_length (n : Nat) : (num1 n).length = 1 := rfl
@[simp] theorem num2_length (n : Nat) : (num2 n).length = 2 := rfl
@[simp] theorem num4_length (n : Nat) : (num4 n).length = 4 := rfl
@[simp] theorem choice_length (b : Bool) : (choice b).length = 1 := rfl

theorem bigEndian_num1 {n : Nat} (h : n < 256) : bigEndian (num1 n) = n := by
  simp [bigEndian, num1]; omega

theorem bigEndian_num2 {n : Nat} (h : n < 65536) : bigEndian (num2 n) = n := by
  simp [bigEndian, num2]; omega

theorem bigEndian_num4 {n : Nat} (h : n < 4294967296) : bigEndian (num4 n) = n := by
  simp [bigEndian, num4]; omega

/-- A field that lies in the first part of a body. -/
theorem fieldAt_append_left {xs ys : List Byte} {start len : Nat} (h : start + len ≤ xs.length) :
    fieldAt (xs ++ ys) start len = fieldAt xs start len := by
  unfold fieldAt
  rw [List.drop_append_of_le_length (by omega), List.take_append_of_le_length (by simp; omega)]

/-- A field that lies behind the first part of a body. -/
theorem fieldAt_append_right {xs ys : List Byte} {start len : Nat} (h : xs.length ≤ start) :
    fieldAt (xs ++ ys) start len = fieldAt ys (start - xs.length) len := by
  unfold fieldAt
  rw [List.drop_append, List.drop_eq_nil_of_le h, List.nil_append]

theorem fieldAt_num1 {n : Nat} (h : n < 256) : fieldAt (num1 n) 0 1 = n := bigEndian_num1 h
theorem fieldAt_num2 {n : Nat} (h : n < 65536) : fieldAt (num2 n) 0 2 = n := bigEndian_num2 h
theorem fieldAt_num4 {n : Nat} (h : n < 4294967296) : fieldAt (num4 n) 0 4 = n := bigEndian_num4 h

/-- The field at the head of a body. -/
theorem fieldAt_num2_head {n : Nat} (ys : List Byte) (h : n < 65536) : fieldAt (num2 n ++ ys) 0 2 = n := by
  rw [fieldAt_append_left (by simp), fieldAt_num2 h]

theorem fieldAt_num4_head {n : Nat} (ys : List Byte) (h : n < 4294967296) : fieldAt (num4 n ++ ys) 0 4 = n := by
  rw [fieldAt_append_left (by simp), fieldAt_num4 h]

theorem fieldAt_num1_head {n : Nat} (ys : List Byte) (h : n < 256) : fieldAt (num1 n ++ ys) 0 1 = n := by
  rw [fieldAt_append_left (by simp), fieldAt_num1 h]

theorem fieldAt_cons_zero (b : Byte) (ys : List Byte) : fieldAt (b :: ys) 0 1 = b.toNat := by
  simp [fieldAt, bigEndian]

/-- One byte of a body is below 256. -/
theorem fieldAt_one_lt (body : List Byte) (start : Nat) : fieldAt body start 1 < 256 := by
  unfold fieldAt
  cases body.drop start with
  | nil => simp [bigEndian]
  | cons b bs => simpa [bigEndian] using b.isLt

/-- A line is read exactly from the numbers below 6. -/
theorem lineAt_eq_some {body : List Byte} {start : Nat} {i : LineIndex} :
    lineAt body start = some i ↔ i.val = fieldAt body start 1 := by
  unfold lineAt
  split
  · simp [Fin.ext_iff, eq_comm]
  · next h => simp only [false_iff, reduceCtorEq]; have := i.isLt; omega

theorem lineAt_eq_none {body : List Byte} {start : Nat} : lineAt body start = none ↔ 6 ≤ fieldAt body start 1 := by
  unfold lineAt
  split <;> simp <;> omega

/-- The entries of a list body, written one behind another, read back one by one. -/
theorem chunks_flatMap {α : Type} (size : Nat) (f : α → List Byte) (hf : ∀ a, (f a).length = size) (xs : List α) :
    chunks size xs.length (xs.flatMap f) = xs.map f := by
  induction xs with
  | nil => rfl
  | cons a as ih =>
    rw [List.flatMap_cons, List.length_cons, chunks, List.map_cons, List.take_append_of_le_length (by simp [hf]),
      List.take_of_length_le (by simp [hf]), List.drop_append_of_le_length (by simp [hf]),
      List.drop_eq_nil_of_le (by simp [hf]), List.nil_append, ih]

/-! ## Shoes, lines and links -/

@[simp] theorem mem_allShoes (i : ShoeIndex) : i ∈ allShoes := List.mem_ofFn.2 ⟨i, rfl⟩
@[simp] theorem mem_allLines (i : LineIndex) : i ∈ allLines := List.mem_ofFn.2 ⟨i, rfl⟩
@[simp] theorem mem_allLinks (l : Link) : l ∈ allLinks := by cases l <;> simp [allLinks]

@[simp] theorem spanShoes_length (first : ShoeIndex) (span : Nat) : (spanShoes first span).length = span := by
  simp [spanShoes]

/-- A span of at most 16 names no shoe twice. -/
theorem spanShoes_nodup (first : ShoeIndex) {span : Nat} (h : span ≤ 16) : (spanShoes first span).Nodup := by
  refine List.Nodup.map_on ?_ List.nodup_range
  intro a ha b hb hab
  have h1 := List.mem_range.1 ha
  have h2 := List.mem_range.1 hb
  have h3 : (first.val + a) % 16 = (first.val + b) % 16 := congrArg Fin.val hab
  have := first.isLt
  omega

/-- The shoes of a span, counted clockwise from its first shoe. -/
theorem mem_spanShoes {first i : ShoeIndex} {span : Nat} :
    i ∈ spanShoes first span ↔ ∃ k < span, i.val = (first.val + k) % 16 := by
  simp [spanShoes, Fin.ext_iff, eq_comm]

/-! ## The frame of a request (R153) -/

/-- A body no frame can carry makes no command. -/
theorem request_illFormed {q : Request} {l : Link} {body : List Byte} {own : Ev → Ev × Reply} {s : State}
    (h : bodyFits body = false) : request q l body own s = .refused .illFormed := by
  simp [request, h]

/-- A frame the link does not take changes nothing. -/
theorem request_deaf {q : Request} {l : Link} {body : List Byte} {own : Ev → Ev × Reply} {s : State}
    (h : bodyFits body = true) (hr : s.receives l = false) : request q l body own s = .next s := by
  simp [request, h, hr]

/-- A frame the link takes: its silence effect, its judgement, the end of the event, the response. -/
theorem request_heard {q : Request} {l : Link} {body : List Byte} {own : Ev → Ev × Reply} {s : State}
    (h : bodyFits body = true) (hr : s.receives l = true) :
    request q l body own s = .next (s.framed l (frameOf q.code body) fun e => e.judgeRequest q l body own) := by
  simp [request, h, hr]

/-- Steps 3 to 6 of R153, in their order. -/
theorem Ev.judgeRequest_cases (e : Ev) (q : Request) (l : Link) (body : List Byte) (own : Ev → Ev × Reply) :
    (q.allowedOn l = false ∧ e.judgeRequest q l body own = (e, .refuse .notPermitted))
    ∨ (q.allowedOn l = true ∧ e.configured = false ∧ q.early = false
        ∧ e.judgeRequest q l body own = (e, .refuse .wrongState))
    ∨ (q.allowedOn l = true ∧ (e.configured = true ∨ q.early = true) ∧ q.lengthOK l body.length = false
        ∧ e.judgeRequest q l body own = (e, .refuse .badValue))
    ∨ (q.allowedOn l = true ∧ (e.configured = true ∨ q.early = true) ∧ q.lengthOK l body.length = true
        ∧ e.judgeRequest q l body own = own e) := by
  cases ha : q.allowedOn l <;> cases hc : e.configured <;> cases he : q.early <;> cases hl : q.lengthOK l body.length <;>
    simp [Ev.judgeRequest, ha, hc, he, hl]

/-- A valid frame on a link that is not in lapse does no more than start its silence sequence again. -/
theorem Ev.validFrame_of_not_lapsed {e : Ev} {l : Link} (h : (e.lif.get l).silence.lapsed = false) :
    e.validFrame l = e.modSilence l Silence.spoken := by
  simp [Ev.validFrame, h, Ev.when]

/-! ## The silence state after a valid frame -/

@[simp] theorem Silence.spoken_armed (c : Silence) : c.spoken.armed = c.armed := rfl
@[simp] theorem Silence.spoken_phase (c : Silence) : c.spoken.phase = .watching := rfl
@[simp] theorem Silence.spoken_checks (c : Silence) : c.spoken.checks = 0 := rfl
@[simp] theorem Silence.spoken_checkTimer (c : Silence) : c.spoken.checkTimer = c.checkTimer.stop := rfl

/-- A valid frame sets the silence timer to 0, running if the link is armed. -/
@[simp] theorem Silence.spoken_silenceTimer_elapsed (c : Silence) : c.spoken.silenceTimer.elapsed = 0 := by
  unfold Silence.spoken; split <;> rfl

theorem Silence.spoken_silenceTimer_of_armed {c : Silence} (h : c.armed = true) : c.spoken.silenceTimer = ⟨.running, 0⟩ := by
  simp [Silence.spoken, h, Timer.start]

end Sys2Proof.Machine
end

