-- ==== Sys2Proof/Laws/State.lean ====
section
/-! SUPPORT. What each block update of an event does to each field of the state: one lemma per field per update, all by
unfolding, so that no later proof unfolds a record update. -/

namespace Sys2Proof.Machine

variable {e : Ev}

/-! ### `modPins` -/

@[simp] theorem Ev.modPins_pending (f : Pins → Pins) : (e.modPins f).pending = e.pending := rfl
@[simp] theorem Ev.modPins_pins (f : Pins → Pins) : (e.modPins f).pins = f e.pins := rfl
@[simp] theorem Ev.modPins_tmb (f : Pins → Pins) : (e.modPins f).tmb = e.tmb := rfl
@[simp] theorem Ev.modPins_configured (f : Pins → Pins) : (e.modPins f).configured = e.configured := rfl
@[simp] theorem Ev.modPins_geo (f : Pins → Pins) : (e.modPins f).geo = e.geo := rfl
@[simp] theorem Ev.modPins_lim (f : Pins → Pins) : (e.modPins f).lim = e.lim := rfl
@[simp] theorem Ev.modPins_rst (f : Pins → Pins) : (e.modPins f).rst = e.rst := rfl
@[simp] theorem Ev.modPins_hold (f : Pins → Pins) : (e.modPins f).hold = e.hold := rfl
@[simp] theorem Ev.modPins_stc (f : Pins → Pins) : (e.modPins f).stc = e.stc := rfl
@[simp] theorem Ev.modPins_sht (f : Pins → Pins) : (e.modPins f).sht = e.sht := rfl
@[simp] theorem Ev.modPins_bla (f : Pins → Pins) : (e.modPins f).bla = e.bla := rfl
@[simp] theorem Ev.modPins_bal (f : Pins → Pins) : (e.modPins f).bal = e.bal := rfl
@[simp] theorem Ev.modPins_rgv (f : Pins → Pins) : (e.modPins f).rgv = e.rgv := rfl
@[simp] theorem Ev.modPins_spm (f : Pins → Pins) : (e.modPins f).spm = e.spm := rfl
@[simp] theorem Ev.modPins_grs (f : Pins → Pins) : (e.modPins f).grs = e.grs := rfl
@[simp] theorem Ev.modPins_ntu (f : Pins → Pins) : (e.modPins f).ntu = e.ntu := rfl
@[simp] theorem Ev.modPins_lif (f : Pins → Pins) : (e.modPins f).lif = e.lif := rfl
@[simp] theorem Ev.modPins_raised (f : Pins → Pins) : (e.modPins f).raised = e.raised := rfl
@[simp] theorem Ev.modPins_base (f : Pins → Pins) : (e.modPins f).base = e.base := rfl

/-! ### `modTmb` -/

@[simp] theorem Ev.modTmb_pending (f : Timebase → Timebase) : (e.modTmb f).pending = e.pending := rfl
@[simp] theorem Ev.modTmb_pins (f : Timebase → Timebase) : (e.modTmb f).pins = e.pins := rfl
@[simp] theorem Ev.modTmb_tmb (f : Timebase → Timebase) : (e.modTmb f).tmb = f e.tmb := rfl
@[simp] theorem Ev.modTmb_configured (f : Timebase → Timebase) : (e.modTmb f).configured = e.configured := rfl
@[simp] theorem Ev.modTmb_geo (f : Timebase → Timebase) : (e.modTmb f).geo = e.geo := rfl
@[simp] theorem Ev.modTmb_lim (f : Timebase → Timebase) : (e.modTmb f).lim = e.lim := rfl
@[simp] theorem Ev.modTmb_rst (f : Timebase → Timebase) : (e.modTmb f).rst = e.rst := rfl
@[simp] theorem Ev.modTmb_hold (f : Timebase → Timebase) : (e.modTmb f).hold = e.hold := rfl
@[simp] theorem Ev.modTmb_stc (f : Timebase → Timebase) : (e.modTmb f).stc = e.stc := rfl
@[simp] theorem Ev.modTmb_sht (f : Timebase → Timebase) : (e.modTmb f).sht = e.sht := rfl
@[simp] theorem Ev.modTmb_bla (f : Timebase → Timebase) : (e.modTmb f).bla = e.bla := rfl
@[simp] theorem Ev.modTmb_bal (f : Timebase → Timebase) : (e.modTmb f).bal = e.bal := rfl
@[simp] theorem Ev.modTmb_rgv (f : Timebase → Timebase) : (e.modTmb f).rgv = e.rgv := rfl
@[simp] theorem Ev.modTmb_spm (f : Timebase → Timebase) : (e.modTmb f).spm = e.spm := rfl
@[simp] theorem Ev.modTmb_grs (f : Timebase → Timebase) : (e.modTmb f).grs = e.grs := rfl
@[simp] theorem Ev.modTmb_ntu (f : Timebase → Timebase) : (e.modTmb f).ntu = e.ntu := rfl
@[simp] theorem Ev.modTmb_lif (f : Timebase → Timebase) : (e.modTmb f).lif = e.lif := rfl
@[simp] theorem Ev.modTmb_raised (f : Timebase → Timebase) : (e.modTmb f).raised = e.raised := rfl
@[simp] theorem Ev.modTmb_base (f : Timebase → Timebase) : (e.modTmb f).base = e.base := rfl

/-! ### `modRst` -/

@[simp] theorem Ev.modRst_pending (f : RingStore → RingStore) : (e.modRst f).pending = e.pending := rfl
@[simp] theorem Ev.modRst_pins (f : RingStore → RingStore) : (e.modRst f).pins = e.pins := rfl
@[simp] theorem Ev.modRst_tmb (f : RingStore → RingStore) : (e.modRst f).tmb = e.tmb := rfl
@[simp] theorem Ev.modRst_configured (f : RingStore → RingStore) : (e.modRst f).configured = e.configured := rfl
@[simp] theorem Ev.modRst_geo (f : RingStore → RingStore) : (e.modRst f).geo = e.geo := rfl
@[simp] theorem Ev.modRst_lim (f : RingStore → RingStore) : (e.modRst f).lim = e.lim := rfl
@[simp] theorem Ev.modRst_rst (f : RingStore → RingStore) : (e.modRst f).rst = f e.rst := rfl
@[simp] theorem Ev.modRst_hold (f : RingStore → RingStore) : (e.modRst f).hold = e.hold := rfl
@[simp] theorem Ev.modRst_stc (f : RingStore → RingStore) : (e.modRst f).stc = e.stc := rfl
@[simp] theorem Ev.modRst_sht (f : RingStore → RingStore) : (e.modRst f).sht = e.sht := rfl
@[simp] theorem Ev.modRst_bla (f : RingStore → RingStore) : (e.modRst f).bla = e.bla := rfl
@[simp] theorem Ev.modRst_bal (f : RingStore → RingStore) : (e.modRst f).bal = e.bal := rfl
@[simp] theorem Ev.modRst_rgv (f : RingStore → RingStore) : (e.modRst f).rgv = e.rgv := rfl
@[simp] theorem Ev.modRst_spm (f : RingStore → RingStore) : (e.modRst f).spm = e.spm := rfl
@[simp] theorem Ev.modRst_grs (f : RingStore → RingStore) : (e.modRst f).grs = e.grs := rfl
@[simp] theorem Ev.modRst_ntu (f : RingStore → RingStore) : (e.modRst f).ntu = e.ntu := rfl
@[simp] theorem Ev.modRst_lif (f : RingStore → RingStore) : (e.modRst f).lif = e.lif := rfl
@[simp] theorem Ev.modRst_raised (f : RingStore → RingStore) : (e.modRst f).raised = e.raised := rfl
@[simp] theorem Ev.modRst_base (f : RingStore → RingStore) : (e.modRst f).base = e.base := rfl

/-! ### `modHold` -/

@[simp] theorem Ev.modHold_pending (f : HoldSet → HoldSet) : (e.modHold f).pending = e.pending := rfl
@[simp] theorem Ev.modHold_pins (f : HoldSet → HoldSet) : (e.modHold f).pins = e.pins := rfl
@[simp] theorem Ev.modHold_tmb (f : HoldSet → HoldSet) : (e.modHold f).tmb = e.tmb := rfl
@[simp] theorem Ev.modHold_configured (f : HoldSet → HoldSet) : (e.modHold f).configured = e.configured := rfl
@[simp] theorem Ev.modHold_geo (f : HoldSet → HoldSet) : (e.modHold f).geo = e.geo := rfl
@[simp] theorem Ev.modHold_lim (f : HoldSet → HoldSet) : (e.modHold f).lim = e.lim := rfl
@[simp] theorem Ev.modHold_rst (f : HoldSet → HoldSet) : (e.modHold f).rst = e.rst := rfl
@[simp] theorem Ev.modHold_hold (f : HoldSet → HoldSet) : (e.modHold f).hold = f e.hold := rfl
@[simp] theorem Ev.modHold_stc (f : HoldSet → HoldSet) : (e.modHold f).stc = e.stc := rfl
@[simp] theorem Ev.modHold_sht (f : HoldSet → HoldSet) : (e.modHold f).sht = e.sht := rfl
@[simp] theorem Ev.modHold_bla (f : HoldSet → HoldSet) : (e.modHold f).bla = e.bla := rfl
@[simp] theorem Ev.modHold_bal (f : HoldSet → HoldSet) : (e.modHold f).bal = e.bal := rfl
@[simp] theorem Ev.modHold_rgv (f : HoldSet → HoldSet) : (e.modHold f).rgv = e.rgv := rfl
@[simp] theorem Ev.modHold_spm (f : HoldSet → HoldSet) : (e.modHold f).spm = e.spm := rfl
@[simp] theorem Ev.modHold_grs (f : HoldSet → HoldSet) : (e.modHold f).grs = e.grs := rfl
@[simp] theorem Ev.modHold_ntu (f : HoldSet → HoldSet) : (e.modHold f).ntu = e.ntu := rfl
@[simp] theorem Ev.modHold_lif (f : HoldSet → HoldSet) : (e.modHold f).lif = e.lif := rfl
@[simp] theorem Ev.modHold_raised (f : HoldSet → HoldSet) : (e.modHold f).raised = e.raised := rfl
@[simp] theorem Ev.modHold_base (f : HoldSet → HoldSet) : (e.modHold f).base = e.base := rfl

/-! ### `modStc` -/

@[simp] theorem Ev.modStc_pending (f : StrokeControl → StrokeControl) : (e.modStc f).pending = e.pending := rfl
@[simp] theorem Ev.modStc_pins (f : StrokeControl → StrokeControl) : (e.modStc f).pins = e.pins := rfl
@[simp] theorem Ev.modStc_tmb (f : StrokeControl → StrokeControl) : (e.modStc f).tmb = e.tmb := rfl
@[simp] theorem Ev.modStc_configured (f : StrokeControl → StrokeControl) : (e.modStc f).configured = e.configured := rfl
@[simp] theorem Ev.modStc_geo (f : StrokeControl → StrokeControl) : (e.modStc f).geo = e.geo := rfl
@[simp] theorem Ev.modStc_lim (f : StrokeControl → StrokeControl) : (e.modStc f).lim = e.lim := rfl
@[simp] theorem Ev.modStc_rst (f : StrokeControl → StrokeControl) : (e.modStc f).rst = e.rst := rfl
@[simp] theorem Ev.modStc_hold (f : StrokeControl → StrokeControl) : (e.modStc f).hold = e.hold := rfl
@[simp] theorem Ev.modStc_stc (f : StrokeControl → StrokeControl) : (e.modStc f).stc = f e.stc := rfl
@[simp] theorem Ev.modStc_sht (f : StrokeControl → StrokeControl) : (e.modStc f).sht = e.sht := rfl
@[simp] theorem Ev.modStc_bla (f : StrokeControl → StrokeControl) : (e.modStc f).bla = e.bla := rfl
@[simp] theorem Ev.modStc_bal (f : StrokeControl → StrokeControl) : (e.modStc f).bal = e.bal := rfl
@[simp] theorem Ev.modStc_rgv (f : StrokeControl → StrokeControl) : (e.modStc f).rgv = e.rgv := rfl
@[simp] theorem Ev.modStc_spm (f : StrokeControl → StrokeControl) : (e.modStc f).spm = e.spm := rfl
@[simp] theorem Ev.modStc_grs (f : StrokeControl → StrokeControl) : (e.modStc f).grs = e.grs := rfl
@[simp] theorem Ev.modStc_ntu (f : StrokeControl → StrokeControl) : (e.modStc f).ntu = e.ntu := rfl
@[simp] theorem Ev.modStc_lif (f : StrokeControl → StrokeControl) : (e.modStc f).lif = e.lif := rfl
@[simp] theorem Ev.modStc_raised (f : StrokeControl → StrokeControl) : (e.modStc f).raised = e.raised := rfl
@[simp] theorem Ev.modStc_base (f : StrokeControl → StrokeControl) : (e.modStc f).base = e.base := rfl

/-! ### `modSht` -/

@[simp] theorem Ev.modSht_pending (f : Vector ShoeRecord 16 → Vector ShoeRecord 16) : (e.modSht f).pending = e.pending := rfl
@[simp] theorem Ev.modSht_pins (f : Vector ShoeRecord 16 → Vector ShoeRecord 16) : (e.modSht f).pins = e.pins := rfl
@[simp] theorem Ev.modSht_tmb (f : Vector ShoeRecord 16 → Vector ShoeRecord 16) : (e.modSht f).tmb = e.tmb := rfl
@[simp] theorem Ev.modSht_configured (f : Vector ShoeRecord 16 → Vector ShoeRecord 16) : (e.modSht f).configured = e.configured := rfl
@[simp] theorem Ev.modSht_geo (f : Vector ShoeRecord 16 → Vector ShoeRecord 16) : (e.modSht f).geo = e.geo := rfl
@[simp] theorem Ev.modSht_lim (f : Vector ShoeRecord 16 → Vector ShoeRecord 16) : (e.modSht f).lim = e.lim := rfl
@[simp] theorem Ev.modSht_rst (f : Vector ShoeRecord 16 → Vector ShoeRecord 16) : (e.modSht f).rst = e.rst := rfl
@[simp] theorem Ev.modSht_hold (f : Vector ShoeRecord 16 → Vector ShoeRecord 16) : (e.modSht f).hold = e.hold := rfl
@[simp] theorem Ev.modSht_stc (f : Vector ShoeRecord 16 → Vector ShoeRecord 16) : (e.modSht f).stc = e.stc := rfl
@[simp] theorem Ev.modSht_sht (f : Vector ShoeRecord 16 → Vector ShoeRecord 16) : (e.modSht f).sht = f e.sht := rfl
@[simp] theorem Ev.modSht_bla (f : Vector ShoeRecord 16 → Vector ShoeRecord 16) : (e.modSht f).bla = e.bla := rfl
@[simp] theorem Ev.modSht_bal (f : Vector ShoeRecord 16 → Vector ShoeRecord 16) : (e.modSht f).bal = e.bal := rfl
@[simp] theorem Ev.modSht_rgv (f : Vector ShoeRecord 16 → Vector ShoeRecord 16) : (e.modSht f).rgv = e.rgv := rfl
@[simp] theorem Ev.modSht_spm (f : Vector ShoeRecord 16 → Vector ShoeRecord 16) : (e.modSht f).spm = e.spm := rfl
@[simp] theorem Ev.modSht_grs (f : Vector ShoeRecord 16 → Vector ShoeRecord 16) : (e.modSht f).grs = e.grs := rfl
@[simp] theorem Ev.modSht_ntu (f : Vector ShoeRecord 16 → Vector ShoeRecord 16) : (e.modSht f).ntu = e.ntu := rfl
@[simp] theorem Ev.modSht_lif (f : Vector ShoeRecord 16 → Vector ShoeRecord 16) : (e.modSht f).lif = e.lif := rfl
@[simp] theorem Ev.modSht_raised (f : Vector ShoeRecord 16 → Vector ShoeRecord 16) : (e.modSht f).raised = e.raised := rfl
@[simp] theorem Ev.modSht_base (f : Vector ShoeRecord 16 → Vector ShoeRecord 16) : (e.modSht f).base = e.base := rfl

/-! ### `modBla` -/

@[simp] theorem Ev.modBla_pending (f : BuildArbiter → BuildArbiter) : (e.modBla f).pending = e.pending := rfl
@[simp] theorem Ev.modBla_pins (f : BuildArbiter → BuildArbiter) : (e.modBla f).pins = e.pins := rfl
@[simp] theorem Ev.modBla_tmb (f : BuildArbiter → BuildArbiter) : (e.modBla f).tmb = e.tmb := rfl
@[simp] theorem Ev.modBla_configured (f : BuildArbiter → BuildArbiter) : (e.modBla f).configured = e.configured := rfl
@[simp] theorem Ev.modBla_geo (f : BuildArbiter → BuildArbiter) : (e.modBla f).geo = e.geo := rfl
@[simp] theorem Ev.modBla_lim (f : BuildArbiter → BuildArbiter) : (e.modBla f).lim = e.lim := rfl
@[simp] theorem Ev.modBla_rst (f : BuildArbiter → BuildArbiter) : (e.modBla f).rst = e.rst := rfl
@[simp] theorem Ev.modBla_hold (f : BuildArbiter → BuildArbiter) : (e.modBla f).hold = e.hold := rfl
@[simp] theorem Ev.modBla_stc (f : BuildArbiter → BuildArbiter) : (e.modBla f).stc = e.stc := rfl
@[simp] theorem Ev.modBla_sht (f : BuildArbiter → BuildArbiter) : (e.modBla f).sht = e.sht := rfl
@[simp] theorem Ev.modBla_bla (f : BuildArbiter → BuildArbiter) : (e.modBla f).bla = f e.bla := rfl
@[simp] theorem Ev.modBla_bal (f : BuildArbiter → BuildArbiter) : (e.modBla f).bal = e.bal := rfl
@[simp] theorem Ev.modBla_rgv (f : BuildArbiter → BuildArbiter) : (e.modBla f).rgv = e.rgv := rfl
@[simp] theorem Ev.modBla_spm (f : BuildArbiter → BuildArbiter) : (e.modBla f).spm = e.spm := rfl
@[simp] theorem Ev.modBla_grs (f : BuildArbiter → BuildArbiter) : (e.modBla f).grs = e.grs := rfl
@[simp] theorem Ev.modBla_ntu (f : BuildArbiter → BuildArbiter) : (e.modBla f).ntu = e.ntu := rfl
@[simp] theorem Ev.modBla_lif (f : BuildArbiter → BuildArbiter) : (e.modBla f).lif = e.lif := rfl
@[simp] theorem Ev.modBla_raised (f : BuildArbiter → BuildArbiter) : (e.modBla f).raised = e.raised := rfl
@[simp] theorem Ev.modBla_base (f : BuildArbiter → BuildArbiter) : (e.modBla f).base = e.base := rfl

/-! ### `modBal` -/

@[simp] theorem Ev.modBal_pending (f : Balance → Balance) : (e.modBal f).pending = e.pending := rfl
@[simp] theorem Ev.modBal_pins (f : Balance → Balance) : (e.modBal f).pins = e.pins := rfl
@[simp] theorem Ev.modBal_tmb (f : Balance → Balance) : (e.modBal f).tmb = e.tmb := rfl
@[simp] theorem Ev.modBal_configured (f : Balance → Balance) : (e.modBal f).configured = e.configured := rfl
@[simp] theorem Ev.modBal_geo (f : Balance → Balance) : (e.modBal f).geo = e.geo := rfl
@[simp] theorem Ev.modBal_lim (f : Balance → Balance) : (e.modBal f).lim = e.lim := rfl
@[simp] theorem Ev.modBal_rst (f : Balance → Balance) : (e.modBal f).rst = e.rst := rfl
@[simp] theorem Ev.modBal_hold (f : Balance → Balance) : (e.modBal f).hold = e.hold := rfl
@[simp] theorem Ev.modBal_stc (f : Balance → Balance) : (e.modBal f).stc = e.stc := rfl
@[simp] theorem Ev.modBal_sht (f : Balance → Balance) : (e.modBal f).sht = e.sht := rfl
@[simp] theorem Ev.modBal_bla (f : Balance → Balance) : (e.modBal f).bla = e.bla := rfl
@[simp] theorem Ev.modBal_bal (f : Balance → Balance) : (e.modBal f).bal = f e.bal := rfl
@[simp] theorem Ev.modBal_rgv (f : Balance → Balance) : (e.modBal f).rgv = e.rgv := rfl
@[simp] theorem Ev.modBal_spm (f : Balance → Balance) : (e.modBal f).spm = e.spm := rfl
@[simp] theorem Ev.modBal_grs (f : Balance → Balance) : (e.modBal f).grs = e.grs := rfl
@[simp] theorem Ev.modBal_ntu (f : Balance → Balance) : (e.modBal f).ntu = e.ntu := rfl
@[simp] theorem Ev.modBal_lif (f : Balance → Balance) : (e.modBal f).lif = e.lif := rfl
@[simp] theorem Ev.modBal_raised (f : Balance → Balance) : (e.modBal f).raised = e.raised := rfl
@[simp] theorem Ev.modBal_base (f : Balance → Balance) : (e.modBal f).base = e.base := rfl

/-! ### `modRgv` -/

@[simp] theorem Ev.modRgv_pending (f : Governor → Governor) : (e.modRgv f).pending = e.pending := rfl
@[simp] theorem Ev.modRgv_pins (f : Governor → Governor) : (e.modRgv f).pins = e.pins := rfl
@[simp] theorem Ev.modRgv_tmb (f : Governor → Governor) : (e.modRgv f).tmb = e.tmb := rfl
@[simp] theorem Ev.modRgv_configured (f : Governor → Governor) : (e.modRgv f).configured = e.configured := rfl
@[simp] theorem Ev.modRgv_geo (f : Governor → Governor) : (e.modRgv f).geo = e.geo := rfl
@[simp] theorem Ev.modRgv_lim (f : Governor → Governor) : (e.modRgv f).lim = e.lim := rfl
@[simp] theorem Ev.modRgv_rst (f : Governor → Governor) : (e.modRgv f).rst = e.rst := rfl
@[simp] theorem Ev.modRgv_hold (f : Governor → Governor) : (e.modRgv f).hold = e.hold := rfl
@[simp] theorem Ev.modRgv_stc (f : Governor → Governor) : (e.modRgv f).stc = e.stc := rfl
@[simp] theorem Ev.modRgv_sht (f : Governor → Governor) : (e.modRgv f).sht = e.sht := rfl
@[simp] theorem Ev.modRgv_bla (f : Governor → Governor) : (e.modRgv f).bla = e.bla := rfl
@[simp] theorem Ev.modRgv_bal (f : Governor → Governor) : (e.modRgv f).bal = e.bal := rfl
@[simp] theorem Ev.modRgv_rgv (f : Governor → Governor) : (e.modRgv f).rgv = f e.rgv := rfl
@[simp] theorem Ev.modRgv_spm (f : Governor → Governor) : (e.modRgv f).spm = e.spm := rfl
@[simp] theorem Ev.modRgv_grs (f : Governor → Governor) : (e.modRgv f).grs = e.grs := rfl
@[simp] theorem Ev.modRgv_ntu (f : Governor → Governor) : (e.modRgv f).ntu = e.ntu := rfl
@[simp] theorem Ev.modRgv_lif (f : Governor → Governor) : (e.modRgv f).lif = e.lif := rfl
@[simp] theorem Ev.modRgv_raised (f : Governor → Governor) : (e.modRgv f).raised = e.raised := rfl
@[simp] theorem Ev.modRgv_base (f : Governor → Governor) : (e.modRgv f).base = e.base := rfl

/-! ### `modSpm` -/

@[simp] theorem Ev.modSpm_pending (f : SpoilMonitor → SpoilMonitor) : (e.modSpm f).pending = e.pending := rfl
@[simp] theorem Ev.modSpm_pins (f : SpoilMonitor → SpoilMonitor) : (e.modSpm f).pins = e.pins := rfl
@[simp] theorem Ev.modSpm_tmb (f : SpoilMonitor → SpoilMonitor) : (e.modSpm f).tmb = e.tmb := rfl
@[simp] theorem Ev.modSpm_configured (f : SpoilMonitor → SpoilMonitor) : (e.modSpm f).configured = e.configured := rfl
@[simp] theorem Ev.modSpm_geo (f : SpoilMonitor → SpoilMonitor) : (e.modSpm f).geo = e.geo := rfl
@[simp] theorem Ev.modSpm_lim (f : SpoilMonitor → SpoilMonitor) : (e.modSpm f).lim = e.lim := rfl
@[simp] theorem Ev.modSpm_rst (f : SpoilMonitor → SpoilMonitor) : (e.modSpm f).rst = e.rst := rfl
@[simp] theorem Ev.modSpm_hold (f : SpoilMonitor → SpoilMonitor) : (e.modSpm f).hold = e.hold := rfl
@[simp] theorem Ev.modSpm_stc (f : SpoilMonitor → SpoilMonitor) : (e.modSpm f).stc = e.stc := rfl
@[simp] theorem Ev.modSpm_sht (f : SpoilMonitor → SpoilMonitor) : (e.modSpm f).sht = e.sht := rfl
@[simp] theorem Ev.modSpm_bla (f : SpoilMonitor → SpoilMonitor) : (e.modSpm f).bla = e.bla := rfl
@[simp] theorem Ev.modSpm_bal (f : SpoilMonitor → SpoilMonitor) : (e.modSpm f).bal = e.bal := rfl
@[simp] theorem Ev.modSpm_rgv (f : SpoilMonitor → SpoilMonitor) : (e.modSpm f).rgv = e.rgv := rfl
@[simp] theorem Ev.modSpm_spm (f : SpoilMonitor → SpoilMonitor) : (e.modSpm f).spm = f e.spm := rfl
@[simp] theorem Ev.modSpm_grs (f : SpoilMonitor → SpoilMonitor) : (e.modSpm f).grs = e.grs := rfl
@[simp] theorem Ev.modSpm_ntu (f : SpoilMonitor → SpoilMonitor) : (e.modSpm f).ntu = e.ntu := rfl
@[simp] theorem Ev.modSpm_lif (f : SpoilMonitor → SpoilMonitor) : (e.modSpm f).lif = e.lif := rfl
@[simp] theorem Ev.modSpm_raised (f : SpoilMonitor → SpoilMonitor) : (e.modSpm f).raised = e.raised := rfl
@[simp] theorem Ev.modSpm_base (f : SpoilMonitor → SpoilMonitor) : (e.modSpm f).base = e.base := rfl

/-! ### `modGrs` -/

@[simp] theorem Ev.modGrs_pending (f : Vector LineRecord 6 → Vector LineRecord 6) : (e.modGrs f).pending = e.pending := rfl
@[simp] theorem Ev.modGrs_pins (f : Vector LineRecord 6 → Vector LineRecord 6) : (e.modGrs f).pins = e.pins := rfl
@[simp] theorem Ev.modGrs_tmb (f : Vector LineRecord 6 → Vector LineRecord 6) : (e.modGrs f).tmb = e.tmb := rfl
@[simp] theorem Ev.modGrs_configured (f : Vector LineRecord 6 → Vector LineRecord 6) : (e.modGrs f).configured = e.configured := rfl
@[simp] theorem Ev.modGrs_geo (f : Vector LineRecord 6 → Vector LineRecord 6) : (e.modGrs f).geo = e.geo := rfl
@[simp] theorem Ev.modGrs_lim (f : Vector LineRecord 6 → Vector LineRecord 6) : (e.modGrs f).lim = e.lim := rfl
@[simp] theorem Ev.modGrs_rst (f : Vector LineRecord 6 → Vector LineRecord 6) : (e.modGrs f).rst = e.rst := rfl
@[simp] theorem Ev.modGrs_hold (f : Vector LineRecord 6 → Vector LineRecord 6) : (e.modGrs f).hold = e.hold := rfl
@[simp] theorem Ev.modGrs_stc (f : Vector LineRecord 6 → Vector LineRecord 6) : (e.modGrs f).stc = e.stc := rfl
@[simp] theorem Ev.modGrs_sht (f : Vector LineRecord 6 → Vector LineRecord 6) : (e.modGrs f).sht = e.sht := rfl
@[simp] theorem Ev.modGrs_bla (f : Vector LineRecord 6 → Vector LineRecord 6) : (e.modGrs f).bla = e.bla := rfl
@[simp] theorem Ev.modGrs_bal (f : Vector LineRecord 6 → Vector LineRecord 6) : (e.modGrs f).bal = e.bal := rfl
@[simp] theorem Ev.modGrs_rgv (f : Vector LineRecord 6 → Vector LineRecord 6) : (e.modGrs f).rgv = e.rgv := rfl
@[simp] theorem Ev.modGrs_spm (f : Vector LineRecord 6 → Vector LineRecord 6) : (e.modGrs f).spm = e.spm := rfl
@[simp] theorem Ev.modGrs_grs (f : Vector LineRecord 6 → Vector LineRecord 6) : (e.modGrs f).grs = f e.grs := rfl
@[simp] theorem Ev.modGrs_ntu (f : Vector LineRecord 6 → Vector LineRecord 6) : (e.modGrs f).ntu = e.ntu := rfl
@[simp] theorem Ev.modGrs_lif (f : Vector LineRecord 6 → Vector LineRecord 6) : (e.modGrs f).lif = e.lif := rfl
@[simp] theorem Ev.modGrs_raised (f : Vector LineRecord 6 → Vector LineRecord 6) : (e.modGrs f).raised = e.raised := rfl
@[simp] theorem Ev.modGrs_base (f : Vector LineRecord 6 → Vector LineRecord 6) : (e.modGrs f).base = e.base := rfl

/-! ### `modNtu` -/

@[simp] theorem Ev.modNtu_pending (f : PerLink (List NoticeRecord) → PerLink (List NoticeRecord)) : (e.modNtu f).pending = e.pending := rfl
@[simp] theorem Ev.modNtu_pins (f : PerLink (List NoticeRecord) → PerLink (List NoticeRecord)) : (e.modNtu f).pins = e.pins := rfl
@[simp] theorem Ev.modNtu_tmb (f : PerLink (List NoticeRecord) → PerLink (List NoticeRecord)) : (e.modNtu f).tmb = e.tmb := rfl
@[simp] theorem Ev.modNtu_configured (f : PerLink (List NoticeRecord) → PerLink (List NoticeRecord)) : (e.modNtu f).configured = e.configured := rfl
@[simp] theorem Ev.modNtu_geo (f : PerLink (List NoticeRecord) → PerLink (List NoticeRecord)) : (e.modNtu f).geo = e.geo := rfl
@[simp] theorem Ev.modNtu_lim (f : PerLink (List NoticeRecord) → PerLink (List NoticeRecord)) : (e.modNtu f).lim = e.lim := rfl
@[simp] theorem Ev.modNtu_rst (f : PerLink (List NoticeRecord) → PerLink (List NoticeRecord)) : (e.modNtu f).rst = e.rst := rfl
@[simp] theorem Ev.modNtu_hold (f : PerLink (List NoticeRecord) → PerLink (List NoticeRecord)) : (e.modNtu f).hold = e.hold := rfl
@[simp] theorem Ev.modNtu_stc (f : PerLink (List NoticeRecord) → PerLink (List NoticeRecord)) : (e.modNtu f).stc = e.stc := rfl
@[simp] theorem Ev.modNtu_sht (f : PerLink (List NoticeRecord) → PerLink (List NoticeRecord)) : (e.modNtu f).sht = e.sht := rfl
@[simp] theorem Ev.modNtu_bla (f : PerLink (List NoticeRecord) → PerLink (List NoticeRecord)) : (e.modNtu f).bla = e.bla := rfl
@[simp] theorem Ev.modNtu_bal (f : PerLink (List NoticeRecord) → PerLink (List NoticeRecord)) : (e.modNtu f).bal = e.bal := rfl
@[simp] theorem Ev.modNtu_rgv (f : PerLink (List NoticeRecord) → PerLink (List NoticeRecord)) : (e.modNtu f).rgv = e.rgv := rfl
@[simp] theorem Ev.modNtu_spm (f : PerLink (List NoticeRecord) → PerLink (List NoticeRecord)) : (e.modNtu f).spm = e.spm := rfl
@[simp] theorem Ev.modNtu_grs (f : PerLink (List NoticeRecord) → PerLink (List NoticeRecord)) : (e.modNtu f).grs = e.grs := rfl
@[simp] theorem Ev.modNtu_ntu (f : PerLink (List NoticeRecord) → PerLink (List NoticeRecord)) : (e.modNtu f).ntu = f e.ntu := rfl
@[simp] theorem Ev.modNtu_lif (f : PerLink (List NoticeRecord) → PerLink (List NoticeRecord)) : (e.modNtu f).lif = e.lif := rfl
@[simp] theorem Ev.modNtu_raised (f : PerLink (List NoticeRecord) → PerLink (List NoticeRecord)) : (e.modNtu f).raised = e.raised := rfl
@[simp] theorem Ev.modNtu_base (f : PerLink (List NoticeRecord) → PerLink (List NoticeRecord)) : (e.modNtu f).base = e.base := rfl

/-! ### `modLif` -/

@[simp] theorem Ev.modLif_pending (f : PerLink LinkInterface → PerLink LinkInterface) : (e.modLif f).pending = e.pending := rfl
@[simp] theorem Ev.modLif_pins (f : PerLink LinkInterface → PerLink LinkInterface) : (e.modLif f).pins = e.pins := rfl
@[simp] theorem Ev.modLif_tmb (f : PerLink LinkInterface → PerLink LinkInterface) : (e.modLif f).tmb = e.tmb := rfl
@[simp] theorem Ev.modLif_configured (f : PerLink LinkInterface → PerLink LinkInterface) : (e.modLif f).configured = e.configured := rfl
@[simp] theorem Ev.modLif_geo (f : PerLink LinkInterface → PerLink LinkInterface) : (e.modLif f).geo = e.geo := rfl
@[simp] theorem Ev.modLif_lim (f : PerLink LinkInterface → PerLink LinkInterface) : (e.modLif f).lim = e.lim := rfl
@[simp] theorem Ev.modLif_rst (f : PerLink LinkInterface → PerLink LinkInterface) : (e.modLif f).rst = e.rst := rfl
@[simp] theorem Ev.modLif_hold (f : PerLink LinkInterface → PerLink LinkInterface) : (e.modLif f).hold = e.hold := rfl
@[simp] theorem Ev.modLif_stc (f : PerLink LinkInterface → PerLink LinkInterface) : (e.modLif f).stc = e.stc := rfl
@[simp] theorem Ev.modLif_sht (f : PerLink LinkInterface → PerLink LinkInterface) : (e.modLif f).sht = e.sht := rfl
@[simp] theorem Ev.modLif_bla (f : PerLink LinkInterface → PerLink LinkInterface) : (e.modLif f).bla = e.bla := rfl
@[simp] theorem Ev.modLif_bal (f : PerLink LinkInterface → PerLink LinkInterface) : (e.modLif f).bal = e.bal := rfl
@[simp] theorem Ev.modLif_rgv (f : PerLink LinkInterface → PerLink LinkInterface) : (e.modLif f).rgv = e.rgv := rfl
@[simp] theorem Ev.modLif_spm (f : PerLink LinkInterface → PerLink LinkInterface) : (e.modLif f).spm = e.spm := rfl
@[simp] theorem Ev.modLif_grs (f : PerLink LinkInterface → PerLink LinkInterface) : (e.modLif f).grs = e.grs := rfl
@[simp] theorem Ev.modLif_ntu (f : PerLink LinkInterface → PerLink LinkInterface) : (e.modLif f).ntu = e.ntu := rfl
@[simp] theorem Ev.modLif_lif (f : PerLink LinkInterface → PerLink LinkInterface) : (e.modLif f).lif = f e.lif := rfl
@[simp] theorem Ev.modLif_raised (f : PerLink LinkInterface → PerLink LinkInterface) : (e.modLif f).raised = e.raised := rfl
@[simp] theorem Ev.modLif_base (f : PerLink LinkInterface → PerLink LinkInterface) : (e.modLif f).base = e.base := rfl

/-! ### `modLim` -/

@[simp] theorem Ev.modLim_pending (f : Limits → Limits) : (e.modLim f).pending = e.pending := rfl
@[simp] theorem Ev.modLim_pins (f : Limits → Limits) : (e.modLim f).pins = e.pins := rfl
@[simp] theorem Ev.modLim_tmb (f : Limits → Limits) : (e.modLim f).tmb = e.tmb := rfl
@[simp] theorem Ev.modLim_configured (f : Limits → Limits) : (e.modLim f).configured = e.configured := rfl
@[simp] theorem Ev.modLim_geo (f : Limits → Limits) : (e.modLim f).geo = e.geo := rfl
@[simp] theorem Ev.modLim_lim (f : Limits → Limits) : (e.modLim f).lim = f e.lim := rfl
@[simp] theorem Ev.modLim_rst (f : Limits → Limits) : (e.modLim f).rst = e.rst := rfl
@[simp] theorem Ev.modLim_hold (f : Limits → Limits) : (e.modLim f).hold = e.hold := rfl
@[simp] theorem Ev.modLim_stc (f : Limits → Limits) : (e.modLim f).stc = e.stc := rfl
@[simp] theorem Ev.modLim_sht (f : Limits → Limits) : (e.modLim f).sht = e.sht := rfl
@[simp] theorem Ev.modLim_bla (f : Limits → Limits) : (e.modLim f).bla = e.bla := rfl
@[simp] theorem Ev.modLim_bal (f : Limits → Limits) : (e.modLim f).bal = e.bal := rfl
@[simp] theorem Ev.modLim_rgv (f : Limits → Limits) : (e.modLim f).rgv = e.rgv := rfl
@[simp] theorem Ev.modLim_spm (f : Limits → Limits) : (e.modLim f).spm = e.spm := rfl
@[simp] theorem Ev.modLim_grs (f : Limits → Limits) : (e.modLim f).grs = e.grs := rfl
@[simp] theorem Ev.modLim_ntu (f : Limits → Limits) : (e.modLim f).ntu = e.ntu := rfl
@[simp] theorem Ev.modLim_lif (f : Limits → Limits) : (e.modLim f).lif = e.lif := rfl
@[simp] theorem Ev.modLim_raised (f : Limits → Limits) : (e.modLim f).raised = e.raised := rfl
@[simp] theorem Ev.modLim_base (f : Limits → Limits) : (e.modLim f).base = e.base := rfl

/-! ### `modGeo` -/

@[simp] theorem Ev.modGeo_pending (f : Geometry → Geometry) : (e.modGeo f).pending = e.pending := rfl
@[simp] theorem Ev.modGeo_pins (f : Geometry → Geometry) : (e.modGeo f).pins = e.pins := rfl
@[simp] theorem Ev.modGeo_tmb (f : Geometry → Geometry) : (e.modGeo f).tmb = e.tmb := rfl
@[simp] theorem Ev.modGeo_configured (f : Geometry → Geometry) : (e.modGeo f).configured = e.configured := rfl
@[simp] theorem Ev.modGeo_geo (f : Geometry → Geometry) : (e.modGeo f).geo = f e.geo := rfl
@[simp] theorem Ev.modGeo_lim (f : Geometry → Geometry) : (e.modGeo f).lim = e.lim := rfl
@[simp] theorem Ev.modGeo_rst (f : Geometry → Geometry) : (e.modGeo f).rst = e.rst := rfl
@[simp] theorem Ev.modGeo_hold (f : Geometry → Geometry) : (e.modGeo f).hold = e.hold := rfl
@[simp] theorem Ev.modGeo_stc (f : Geometry → Geometry) : (e.modGeo f).stc = e.stc := rfl
@[simp] theorem Ev.modGeo_sht (f : Geometry → Geometry) : (e.modGeo f).sht = e.sht := rfl
@[simp] theorem Ev.modGeo_bla (f : Geometry → Geometry) : (e.modGeo f).bla = e.bla := rfl
@[simp] theorem Ev.modGeo_bal (f : Geometry → Geometry) : (e.modGeo f).bal = e.bal := rfl
@[simp] theorem Ev.modGeo_rgv (f : Geometry → Geometry) : (e.modGeo f).rgv = e.rgv := rfl
@[simp] theorem Ev.modGeo_spm (f : Geometry → Geometry) : (e.modGeo f).spm = e.spm := rfl
@[simp] theorem Ev.modGeo_grs (f : Geometry → Geometry) : (e.modGeo f).grs = e.grs := rfl
@[simp] theorem Ev.modGeo_ntu (f : Geometry → Geometry) : (e.modGeo f).ntu = e.ntu := rfl
@[simp] theorem Ev.modGeo_lif (f : Geometry → Geometry) : (e.modGeo f).lif = e.lif := rfl
@[simp] theorem Ev.modGeo_raised (f : Geometry → Geometry) : (e.modGeo f).raised = e.raised := rfl
@[simp] theorem Ev.modGeo_base (f : Geometry → Geometry) : (e.modGeo f).base = e.base := rfl

/-! ### `modConfigured` -/

@[simp] theorem Ev.modConfigured_pending (f : Bool → Bool) : (e.modConfigured f).pending = e.pending := rfl
@[simp] theorem Ev.modConfigured_pins (f : Bool → Bool) : (e.modConfigured f).pins = e.pins := rfl
@[simp] theorem Ev.modConfigured_tmb (f : Bool → Bool) : (e.modConfigured f).tmb = e.tmb := rfl
@[simp] theorem Ev.modConfigured_configured (f : Bool → Bool) : (e.modConfigured f).configured = f e.configured := rfl
@[simp] theorem Ev.modConfigured_geo (f : Bool → Bool) : (e.modConfigured f).geo = e.geo := rfl
@[simp] theorem Ev.modConfigured_lim (f : Bool → Bool) : (e.modConfigured f).lim = e.lim := rfl
@[simp] theorem Ev.modConfigured_rst (f : Bool → Bool) : (e.modConfigured f).rst = e.rst := rfl
@[simp] theorem Ev.modConfigured_hold (f : Bool → Bool) : (e.modConfigured f).hold = e.hold := rfl
@[simp] theorem Ev.modConfigured_stc (f : Bool → Bool) : (e.modConfigured f).stc = e.stc := rfl
@[simp] theorem Ev.modConfigured_sht (f : Bool → Bool) : (e.modConfigured f).sht = e.sht := rfl
@[simp] theorem Ev.modConfigured_bla (f : Bool → Bool) : (e.modConfigured f).bla = e.bla := rfl
@[simp] theorem Ev.modConfigured_bal (f : Bool → Bool) : (e.modConfigured f).bal = e.bal := rfl
@[simp] theorem Ev.modConfigured_rgv (f : Bool → Bool) : (e.modConfigured f).rgv = e.rgv := rfl
@[simp] theorem Ev.modConfigured_spm (f : Bool → Bool) : (e.modConfigured f).spm = e.spm := rfl
@[simp] theorem Ev.modConfigured_grs (f : Bool → Bool) : (e.modConfigured f).grs = e.grs := rfl
@[simp] theorem Ev.modConfigured_ntu (f : Bool → Bool) : (e.modConfigured f).ntu = e.ntu := rfl
@[simp] theorem Ev.modConfigured_lif (f : Bool → Bool) : (e.modConfigured f).lif = e.lif := rfl
@[simp] theorem Ev.modConfigured_raised (f : Bool → Bool) : (e.modConfigured f).raised = e.raised := rfl
@[simp] theorem Ev.modConfigured_base (f : Bool → Bool) : (e.modConfigured f).base = e.base := rfl

/-! ### `raise` and `putHold` -/

@[simp] theorem Ev.raise_pending (n : Notice) : (e.raise n).pending = e.pending := rfl
@[simp] theorem Ev.raise_pins (n : Notice) : (e.raise n).pins = e.pins := rfl
@[simp] theorem Ev.raise_tmb (n : Notice) : (e.raise n).tmb = e.tmb := rfl
@[simp] theorem Ev.raise_configured (n : Notice) : (e.raise n).configured = e.configured := rfl
@[simp] theorem Ev.raise_geo (n : Notice) : (e.raise n).geo = e.geo := rfl
@[simp] theorem Ev.raise_lim (n : Notice) : (e.raise n).lim = e.lim := rfl
@[simp] theorem Ev.raise_rst (n : Notice) : (e.raise n).rst = e.rst := rfl
@[simp] theorem Ev.raise_hold (n : Notice) : (e.raise n).hold = e.hold := rfl
@[simp] theorem Ev.raise_stc (n : Notice) : (e.raise n).stc = e.stc := rfl
@[simp] theorem Ev.raise_sht (n : Notice) : (e.raise n).sht = e.sht := rfl
@[simp] theorem Ev.raise_bla (n : Notice) : (e.raise n).bla = e.bla := rfl
@[simp] theorem Ev.raise_bal (n : Notice) : (e.raise n).bal = e.bal := rfl
@[simp] theorem Ev.raise_rgv (n : Notice) : (e.raise n).rgv = e.rgv := rfl
@[simp] theorem Ev.raise_spm (n : Notice) : (e.raise n).spm = e.spm := rfl
@[simp] theorem Ev.raise_grs (n : Notice) : (e.raise n).grs = e.grs := rfl
@[simp] theorem Ev.raise_ntu (n : Notice) : (e.raise n).ntu = e.ntu := rfl
@[simp] theorem Ev.raise_lif (n : Notice) : (e.raise n).lif = e.lif := rfl
@[simp] theorem Ev.raise_base (n : Notice) : (e.raise n).base = e.base := rfl
@[simp] theorem Ev.raise_raised (n : Notice) : (e.raise n).raised = e.raised ++ [n] := rfl
@[simp] theorem Ev.putHold_pending (c : HoldCause) (b : Bool) : (e.putHold c b).pending = e.pending := rfl
@[simp] theorem Ev.putHold_pins (c : HoldCause) (b : Bool) : (e.putHold c b).pins = e.pins := rfl
@[simp] theorem Ev.putHold_tmb (c : HoldCause) (b : Bool) : (e.putHold c b).tmb = e.tmb := rfl
@[simp] theorem Ev.putHold_configured (c : HoldCause) (b : Bool) : (e.putHold c b).configured = e.configured := rfl
@[simp] theorem Ev.putHold_geo (c : HoldCause) (b : Bool) : (e.putHold c b).geo = e.geo := rfl
@[simp] theorem Ev.putHold_lim (c : HoldCause) (b : Bool) : (e.putHold c b).lim = e.lim := rfl
@[simp] theorem Ev.putHold_rst (c : HoldCause) (b : Bool) : (e.putHold c b).rst = e.rst := rfl
@[simp] theorem Ev.putHold_hold (c : HoldCause) (b : Bool) : (e.putHold c b).hold = e.hold.put c b := rfl
@[simp] theorem Ev.putHold_stc (c : HoldCause) (b : Bool) : (e.putHold c b).stc = e.stc := rfl
@[simp] theorem Ev.putHold_sht (c : HoldCause) (b : Bool) : (e.putHold c b).sht = e.sht := rfl
@[simp] theorem Ev.putHold_bla (c : HoldCause) (b : Bool) : (e.putHold c b).bla = e.bla := rfl
@[simp] theorem Ev.putHold_bal (c : HoldCause) (b : Bool) : (e.putHold c b).bal = e.bal := rfl
@[simp] theorem Ev.putHold_rgv (c : HoldCause) (b : Bool) : (e.putHold c b).rgv = e.rgv := rfl
@[simp] theorem Ev.putHold_spm (c : HoldCause) (b : Bool) : (e.putHold c b).spm = e.spm := rfl
@[simp] theorem Ev.putHold_grs (c : HoldCause) (b : Bool) : (e.putHold c b).grs = e.grs := rfl
@[simp] theorem Ev.putHold_ntu (c : HoldCause) (b : Bool) : (e.putHold c b).ntu = e.ntu := rfl
@[simp] theorem Ev.putHold_lif (c : HoldCause) (b : Bool) : (e.putHold c b).lif = e.lif := rfl
@[simp] theorem Ev.putHold_raised (c : HoldCause) (b : Bool) : (e.putHold c b).raised = e.raised := rfl
@[simp] theorem Ev.putHold_base (c : HoldCause) (b : Bool) : (e.putHold c b).base = e.base := rfl

/-! ### `begin` -/

@[simp] theorem Ev.begin_toState (s : State) : (Ev.begin s).toState = s := rfl
@[simp] theorem Ev.begin_raised (s : State) : (Ev.begin s).raised = [] := rfl
@[simp] theorem Ev.begin_base (s : State) : (Ev.begin s).base = s.hold := rfl

/-! ### `when` -/

@[simp] theorem Ev.when_true (f : Ev → Ev) : e.when true f = f e := rfl
@[simp] theorem Ev.when_false (f : Ev → Ev) : e.when false f = e := rfl

end Sys2Proof.Machine
end

