-- ==== Sys2Proof/Laws/Ops.lean ====
section
/-! SUPPORT. What the shared operations can do, one lemma per operation: the per-link tables, the hold-cause set, the
stroke state, the timers, the notice lists, the end of an event, the silence state and the response. -/

namespace Sys2Proof.Machine

/-! ## Per-link tables -/

@[simp] theorem PerLink.get_set_self {α : Type} (p : PerLink α) (l : Link) (x : α) : (p.set l x).get l = x := by
  cases l <;> rfl

@[simp] theorem PerLink.get_set_of_ne {α : Type} (p : PerLink α) {l m : Link} (x : α) (h : m ≠ l) :
    (p.set l x).get m = p.get m := by
  cases l <;> cases m <;> first | rfl | exact absurd rfl h

theorem PerLink.get_set {α : Type} (p : PerLink α) (l m : Link) (x : α) :
    (p.set l x).get m = if m = l then x else p.get m := by
  by_cases h : m = l
  · subst h; simp
  · simp [h]

@[simp] theorem PerLink.get_all {α : Type} (x : α) (l : Link) : (PerLink.all x).get l = x := by cases l <;> rfl

theorem PerLink.ext_get {α : Type} {p q : PerLink α} (h : ∀ l, p.get l = q.get l) : p = q := by
  cases p; cases q
  simpa [PerLink.get] using And.intro (h .advance) (And.intro (h .erector) (And.intro (h .grout) (h .spoil)))

@[simp] theorem PerLink.set_get {α : Type} (p : PerLink α) (l : Link) : p.set l (p.get l) = p := by
  cases l <;> rfl

/-! ## The hold-cause set -/

@[simp] theorem HoldSet.has_put_self (h : HoldSet) (c : HoldCause) (b : Bool) : (h.put c b).has c = b := by
  cases c <;> rfl

@[simp] theorem HoldSet.has_put_of_ne (h : HoldSet) {c d : HoldCause} (b : Bool) (hd : d ≠ c) :
    (h.put c b).has d = h.has d := by
  cases c <;> cases d <;> first | rfl | exact absurd rfl hd

@[simp] theorem HoldSet.put_has (h : HoldSet) (c : HoldCause) : h.put c (h.has c) = h := by cases c <;> rfl

theorem HoldSet.isEmpty_iff (h : HoldSet) : h.isEmpty = true ↔ h = HoldSet.empty := by
  cases h
  simp [HoldSet.isEmpty, allCauses, HoldSet.has, HoldSet.empty]

theorem HoldSet.isEmpty_put_true (h : HoldSet) (c : HoldCause) : (h.put c true).isEmpty = false := by
  cases c <;> simp [HoldSet.isEmpty, allCauses, HoldSet.has, HoldSet.put]

/-! ## The stroke state -/

@[simp] theorem StrokePhase.follow_isOpen (p : StrokePhase) (h : HoldSet) : (p.follow h).isOpen = p.isOpen := by
  cases p <;> simp only [StrokePhase.follow] <;> cases h.isEmpty <;> rfl

@[simp] theorem StrokePhase.follow_sliceOpen (p : StrokePhase) (h : HoldSet) : (p.follow h).sliceOpen = p.sliceOpen := by
  cases p <;> simp only [StrokePhase.follow] <;> cases h.isEmpty <;> rfl

@[simp] theorem StrokePhase.follow_follow (p : StrokePhase) (g h : HoldSet) : (p.follow g).follow h = p.follow h := by
  cases p <;> simp only [StrokePhase.follow] <;> cases g.isEmpty <;> rfl

theorem StrokePhase.follow_eq_advancing (p : StrokePhase) (h : HoldSet) :
    p.follow h = .advancing ↔ p.sliceOpen = true ∧ h = HoldSet.empty := by
  rw [← HoldSet.isEmpty_iff]
  cases p <;> simp [StrokePhase.follow, StrokePhase.sliceOpen]

theorem StrokePhase.sliceOpen_isOpen {p : StrokePhase} (h : p.sliceOpen = true) : p.isOpen = true := by
  cases p <;> simp_all [StrokePhase.sliceOpen, StrokePhase.isOpen]

/-! ## Timers -/

@[simp] theorem Timer.stop_run (t : Timer) : t.stop.run = .stopped := rfl
@[simp] theorem Timer.stop_elapsed (t : Timer) : t.stop.elapsed = t.elapsed := rfl
@[simp] theorem Timer.pause_elapsed (t : Timer) : t.pause.elapsed = t.elapsed := by
  unfold Timer.pause; split <;> rfl
@[simp] theorem Timer.resume_elapsed (t : Timer) : t.resume.elapsed = t.elapsed := by
  unfold Timer.resume; split <;> rfl
theorem Timer.pause_not_running (t : Timer) : t.pause.run ≠ .running := by
  unfold Timer.pause; split <;> simp_all
theorem Timer.reached_iff (t : Timer) (limit : Nat) : t.reached limit = true ↔ t.run = .running ∧ limit ≤ t.elapsed := by
  simp [Timer.reached]

/-! ## Notices into their lists -/

/-- A raise onto a list with no record of the key creates one at the end. -/
theorem addRecord_fresh {now : Nat} {n : Notice} {ns : List NoticeRecord} (h : ∀ r ∈ ns, r.notice.key ≠ n.key) :
    addRecord now n ns = ns ++ [⟨n, now, now, 0⟩] := by
  have : (ns.any fun r => r.notice.key = n.key) = false := by simpa using h
  simp [addRecord, this]

/-- Whatever stood in a list, the raised notice stands in it after the raise. -/
theorem addRecord_tells (now : Nat) (n : Notice) (ns : List NoticeRecord) : ∃ r ∈ addRecord now n ns, r.notice = n := by
  unfold addRecord
  split
  · next h =>
    obtain ⟨r, hr, hk⟩ := List.any_eq_true.1 h
    exact ⟨_, List.mem_map_of_mem hr, by simp at hk; simp [hk]⟩
  · exact ⟨_, List.mem_append_right _ (List.mem_singleton_self _), rfl⟩

/-- The keys of a list after a raise: as before, with a new one at the end if it was not there. -/
theorem addRecord_keys (now : Nat) (n : Notice) (ns : List NoticeRecord) :
    (addRecord now n ns).map (fun r => r.notice.key)
      = if ns.any fun r => r.notice.key = n.key then ns.map fun r => r.notice.key
        else ns.map (fun r => r.notice.key) ++ [n.key] := by
  unfold addRecord
  split
  · rw [List.map_map]
    refine List.map_congr_left fun r _ => ?_
    by_cases h : r.notice.key = n.key <;> simp [h]
  · simp

/-- A raise keeps one record per key. -/
theorem addRecord_nodup {now : Nat} {n : Notice} {ns : List NoticeRecord}
    (h : (ns.map fun r => r.notice.key).Nodup) : ((addRecord now n ns).map fun r => r.notice.key).Nodup := by
  rw [addRecord_keys]
  split
  · exact h
  · next hn =>
    refine List.Nodup.append h (List.nodup_singleton _) ?_
    simp only [List.disjoint_singleton, List.mem_map, not_exists, not_and]
    intro r hr hk
    exact hn (List.any_eq_true.2 ⟨r, hr, by simpa using hk⟩)

/-- The destinations of a notice name each link at most once. -/
theorem Notice.links_nodup (n : Notice) : n.links.Nodup := by
  cases n <;> simp [Notice.links, allLinks]

/-- What a raise does to the list of one link: a record placed if the link is a destination, nothing otherwise. -/
theorem raiseOn_get (now : Nat) (p : PerLink (List NoticeRecord)) (n : Notice) (l : Link) :
    (raiseOn now p n).get l = if l ∈ n.links then addRecord now n (p.get l) else p.get l := by
  have key : ∀ (ls : List Link) (q : PerLink (List NoticeRecord)), ls.Nodup →
      ((ls.foldl (fun q m => q.set m (addRecord now n (q.get m))) q).get l)
        = if l ∈ ls then addRecord now n (q.get l) else q.get l := by
    intro ls
    induction ls with
    | nil => intro q _; simp
    | cons m ms ih =>
      intro q h
      obtain ⟨hm, hms⟩ := List.nodup_cons.1 h
      rw [List.foldl_cons, ih _ hms]
      by_cases hl : l = m
      · subst hl; simp [hm]
      · simp [hl]
  exact key _ _ n.links_nodup

/-- Placing the notices of an event keeps one record per key in every list. -/
theorem foldl_raiseOn_nodup (now : Nat) (l : Link) (ns : List Notice) (p : PerLink (List NoticeRecord))
    (h : ((p.get l).map fun r => r.notice.key).Nodup) :
    (((ns.foldl (raiseOn now) p).get l).map fun r => r.notice.key).Nodup := by
  induction ns generalizing p with
  | nil => exact h
  | cons n ns ih =>
    refine ih _ ?_
    rw [raiseOn_get]
    split
    · exact addRecord_nodup h
    · exact h

@[simp] theorem inOrder_nil : inOrder [] = [] := rfl
@[simp] theorem inOrder_singleton (n : Notice) : inOrder [n] = [n] := rfl
theorem inOrder_perm (ns : List Notice) : (inOrder ns).Perm ns := List.perm_insertionSort _ _

/-! ## The end of an event -/

/-- Placing the raised notices changes the lists alone, and leaves nothing raised. -/
theorem Ev.flush_eq (e : Ev) :
    e.flush = { e with ntu := (inOrder e.raised).foldl (raiseOn e.tmb.running) e.ntu, raised := [] } := rfl

/-- The end of an event: the stroke state follows the set, one HOLD notice tells of a changed set, the notices are
placed; nothing else moves. -/
theorem Ev.close_eq (e : Ev) :
    e.close = { e.toState with
      stc := { e.stc with phase := e.stc.phase.follow e.hold },
      ntu := (inOrder (e.raised ++ if e.hold = e.base then [] else [.hold e.hold])).foldl
        (raiseOn e.tmb.running) e.ntu } := by
  unfold Ev.close Ev.settle Ev.reportHold Ev.followHold Ev.flush
  by_cases h : e.hold = e.base
  · simp [h, Ev.modStc]
  · simp [h, Ev.modStc, Ev.raise]

@[simp] theorem Ev.close_pending (e : Ev) : e.close.pending = e.pending := by rw [Ev.close_eq]
@[simp] theorem Ev.close_pins (e : Ev) : e.close.pins = e.pins := by rw [Ev.close_eq]
@[simp] theorem Ev.close_tmb (e : Ev) : e.close.tmb = e.tmb := by rw [Ev.close_eq]
@[simp] theorem Ev.close_configured (e : Ev) : e.close.configured = e.configured := by rw [Ev.close_eq]
@[simp] theorem Ev.close_geo (e : Ev) : e.close.geo = e.geo := by rw [Ev.close_eq]
@[simp] theorem Ev.close_lim (e : Ev) : e.close.lim = e.lim := by rw [Ev.close_eq]
@[simp] theorem Ev.close_rst (e : Ev) : e.close.rst = e.rst := by rw [Ev.close_eq]
@[simp] theorem Ev.close_hold (e : Ev) : e.close.hold = e.hold := by rw [Ev.close_eq]
@[simp] theorem Ev.close_sht (e : Ev) : e.close.sht = e.sht := by rw [Ev.close_eq]
@[simp] theorem Ev.close_bla (e : Ev) : e.close.bla = e.bla := by rw [Ev.close_eq]
@[simp] theorem Ev.close_bal (e : Ev) : e.close.bal = e.bal := by rw [Ev.close_eq]
@[simp] theorem Ev.close_rgv (e : Ev) : e.close.rgv = e.rgv := by rw [Ev.close_eq]
@[simp] theorem Ev.close_spm (e : Ev) : e.close.spm = e.spm := by rw [Ev.close_eq]
@[simp] theorem Ev.close_grs (e : Ev) : e.close.grs = e.grs := by rw [Ev.close_eq]
@[simp] theorem Ev.close_lif (e : Ev) : e.close.lif = e.lif := by rw [Ev.close_eq]
@[simp] theorem Ev.close_stc (e : Ev) : e.close.stc = { e.stc with phase := e.stc.phase.follow e.hold } := by
  rw [Ev.close_eq]

/-- An event in a part held in reset changes nothing. -/
theorem State.event_held {s : State} (f : Ev → Ev) (h : s.tmb.held.isSome = true) : s.event f = s := by
  simp [State.event, h]

/-- An event in a running part: the work, then the end of the event. -/
theorem State.event_running {s : State} (f : Ev → Ev) (h : s.tmb.held.isSome = false) :
    s.event f = (f (Ev.begin s)).close := by
  simp [State.event, h]

/-- An event whose work changes nothing leaves a steady state as it was. -/
theorem State.event_id {s : State} {f : Ev → Ev} (h : f (Ev.begin s) = Ev.begin s)
    (hs : s.stc.phase.follow s.hold = s.stc.phase) : s.event f = s := by
  cases hh : s.tmb.held.isSome
  · rw [State.event_running f hh, h, Ev.close_eq]
    simp [hs]
  · exact State.event_held f hh

/-! ## Silence and arming -/

@[simp] theorem Silence.follow_armed (c : Silence) : c.follow c.armed = c := by simp [Silence.follow]

/-- After its condition has been looked at, a link is armed exactly if the condition holds, and its lapse stands. -/
theorem Silence.follow_spec (c : Silence) (want : Bool) :
    (c.follow want).armed = want ∧ (c.follow want).lapsed = c.lapsed := by
  unfold Silence.follow
  split
  · next h => exact ⟨h.symm, rfl⟩
  · split
    · next h => exact ⟨h.symm, rfl⟩
    · next h =>
      refine ⟨by simpa [Silence.disarm] using h, ?_⟩
      cases hp : c.phase <;> simp [Silence.disarm, Silence.lapsed, hp]

/-- Updating one link's silence state leaves every arming condition as it was. -/
@[simp] theorem Ev.modSilence_armCondition (e : Ev) (l m : Link) (f : Silence → Silence) :
    (e.modSilence l f).armCondition m = e.armCondition m := by
  cases m <;> rfl

theorem Ev.modSilence_lif (e : Ev) (l : Link) (f : Silence → Silence) :
    (e.modSilence l f).lif = e.lif.set l { e.lif.get l with silence := f (e.lif.get l).silence } := rfl

theorem Ev.modSilence_eq (e : Ev) (l : Link) (f : Silence → Silence) :
    e.modSilence l f = { e with lif := (e.modSilence l f).lif } := rfl

theorem Ev.modLif_eq (e : Ev) (f : PerLink LinkInterface → PerLink LinkInterface) :
    e.modLif f = { e with lif := (e.modLif f).lif } := rfl

theorem Ev.modLif_modLif (e : Ev) (f g : PerLink LinkInterface → PerLink LinkInterface) :
    (e.modLif f).modLif g = e.modLif fun p => g (f p) := rfl

theorem Ev.modSilence_modLif (e : Ev) (l : Link) (f : Silence → Silence) :
    e.modSilence l f = e.modLif fun p => p.set l { p.get l with silence := f (p.get l).silence } := rfl

/-- Judging the arming touches the silence state of each link and nothing else. -/
theorem Ev.judgeArming_eq (e : Ev) :
    e.judgeArming = { e with lif := e.judgeArming.lif } ∧
      ∀ l, e.judgeArming.lif.get l
        = { e.lif.get l with silence := (e.lif.get l).silence.follow (e.armCondition l) } := by
  have h : e.judgeArming
      = (((e.modSilence .advance fun c => c.follow (e.armCondition .advance)).modSilence .erector fun c =>
          c.follow (e.armCondition .erector)).modSilence .grout fun c =>
          c.follow (e.armCondition .grout)).modSilence .spoil fun c => c.follow (e.armCondition .spoil) := by
    simp only [Ev.judgeArming, Ev.each, allLinks, List.foldl_cons, List.foldl_nil, Ev.modSilence_armCondition]
  rw [h]
  refine ⟨?_, fun l => ?_⟩
  · simp only [Ev.modSilence_modLif, Ev.modLif_modLif]
    exact Ev.modLif_eq e _
  · simp only [Ev.modSilence_lif]
    cases l <;> simp [PerLink.get, PerLink.set]

/-! ## Responses -/

/-- A response changes its own link's interface alone, and of that not the silence state. -/
theorem State.respond_spec (s : State) (l : Link) (frame : List Byte) (r : Reply) :
    s.respond l frame r = { s with lif := (s.respond l frame r).lif }
      ∧ (∀ m, m ≠ l → (s.respond l frame r).lif.get m = s.lif.get m)
      ∧ ((s.respond l frame r).lif.get l).silence = (s.lif.get l).silence
      ∧ ((s.respond l frame r).lif.get l).last = some ⟨s.summary l, r.result, r.body⟩ := by
  refine ⟨rfl, fun m hm => ?_, ?_, ?_⟩
  · simp [State.respond, hm]
  · simp only [State.respond, PerLink.get_set_self, LinkInterface.answer]; split <;> rfl
  · simp only [State.respond, PerLink.get_set_self, LinkInterface.answer]; split <;> rfl

/-- What an interface is once a response has been formed: answered with it where a select period stood receiving, and with no
response held otherwise; the record of the response formed last is this one. -/
theorem LinkInterface.answer_spec (c : LinkInterface) (frame : List Byte) (r : Response) :
    (c.answer frame r).last = some r ∧ (c.answer frame r).silence = c.silence
      ∧ (c.phase = .receiving → (c.answer frame r).phase = .answered ∧ (c.answer frame r).response = some r)
      ∧ (c.phase ≠ .receiving → (c.answer frame r).phase = c.phase ∧ (c.answer frame r).response = none) := by
  unfold LinkInterface.answer
  split <;> simp_all

/-! ## Data outputs -/

@[simp] theorem LinkInterface.dataOut_released {c : LinkInterface} (h : c.phase = .released) (n : Nat) :
    c.dataOut n = none := by simp [LinkInterface.dataOut, LinkInterface.selectPhase, h]

@[simp] theorem LinkInterface.dataOut_receiving {c : LinkInterface} (h : c.phase = .receiving) (n : Nat) :
    c.dataOut n = some 0#8 := by simp [LinkInterface.dataOut, LinkInterface.selectPhase, h]

/-- After RECEIVING: two bytes 00h, the bytes of the response, 00h again. -/
theorem LinkInterface.dataOut_answered {c : LinkInterface} {r : Response} (h : c.phase = .answered)
    (hr : c.response = some r) (n : Nat) :
    c.dataOut n = some (if n < 2 then 0#8 else (r.bytes[n - 2]?).getD 0#8) := by
  simp only [LinkInterface.dataOut, LinkInterface.selectPhase, h, hr]
  split_ifs with h1 h2
  · rfl
  · rfl
  · simp [List.getElem?_eq_none (show r.bytes.length ≤ n - 2 by omega)]

theorem State.dataOut_running {s : State} (h : s.tmb.held.isSome = false) (l : Link) (n : Nat) :
    s.dataOut l n = (s.lif.get l).dataOut n := by simp [State.dataOut, h]

end Sys2Proof.Machine
end

