-- ==== Sys2Proof/Laws/Blocks.lean ====
section
/-! SUPPORT. What the blocks' own operations can do inside an event, one lemma per operation: shoes, valves, the debt hold,
BALANCE, trains, the governor. -/

namespace Sys2Proof.Machine

/-! ## One record of a table -/

theorem Ev.modShoe_sht (e : Ev) (i j : ShoeIndex) (f : ShoeRecord → ShoeRecord) :
    (e.modShoe i f).sht[j] = if j = i then f e.sht[i] else e.sht[j] := by
  simp only [Ev.modShoe, Ev.modSht_sht, Fin.getElem_fin, Vector.getElem_set, Fin.ext_iff, eq_comm]

theorem Ev.modShoe_eq (e : Ev) (i : ShoeIndex) (f : ShoeRecord → ShoeRecord) :
    e.modShoe i f = { e with sht := (e.modShoe i f).sht } := rfl

theorem Ev.modLine_grs (e : Ev) (i j : LineIndex) (f : LineRecord → LineRecord) :
    (e.modLine i f).grs[j] = if j = i then f e.grs[i] else e.grs[j] := by
  simp only [Ev.modLine, Ev.modGrs_grs, Fin.getElem_fin, Vector.getElem_set, Fin.ext_iff, eq_comm]

theorem Ev.modLine_eq (e : Ev) (i : LineIndex) (f : LineRecord → LineRecord) :
    e.modLine i f = { e with grs := (e.modLine i f).grs } := rfl

/-! ## Shoes -/

/-- A shoe entering BEARING keeps its owner, its timer stops, and no other shoe moves. -/
theorem Ev.enterBearing_sht (e : Ev) (i j : ShoeIndex) :
    (e.enterBearing i).sht[j]
      = if j = i then { e.sht[i] with state := .bearing, timer := e.sht[i].timer.stop } else e.sht[j] :=
  e.modShoe_sht i j _

/-- A claim's fault leaves every shoe as it was. -/
@[simp] theorem Ev.faultClaim_sht (e : Ev) (i : ShoeIndex) : (e.faultClaim i).sht = e.sht := by
  unfold Ev.faultClaim
  split
  · rfl
  · split <;> rfl

/-- A shoe entering FAULT keeps its owner, and no other shoe moves. -/
theorem Ev.enterFault_sht (e : Ev) (i j : ShoeIndex) (why : FaultReason) :
    (e.enterFault i why).sht[j] = if j = i then e.sht[i].faulted why else e.sht[j] := by
  have h : (e.enterFault i why).sht
      = (e.modShoe i fun r => { r with state := .fault, reason := some why, timer := r.timer.stop }).sht :=
    Ev.faultClaim_sht _ _
  rw [h]
  exact e.modShoe_sht i j _

/-! ## Valves and debts -/

/-- A judged valve stands where its conditions have it; of the rest of the line only the no-pulse timer moves. -/
theorem LineRecord.withValve_spec (r : LineRecord) (want : Bool) :
    (r.withValve want).valve = want
      ∧ r.withValve want = { r with valve := want, noPulse := (r.withValve want).noPulse } := by
  unfold LineRecord.withValve
  split
  · next h => subst h; exact ⟨rfl, rfl⟩
  · split
    · next h => subst h; exact ⟨rfl, rfl⟩
    · next h =>
      have hw : want = false := by simpa using h
      subst hw
      exact ⟨rfl, rfl⟩

/-- What opens a valve reads of a line its state and its debt. -/
theorem valveWanted_congr {s t : State} {i : LineIndex} (hs : t.grs[i].state = s.grs[i].state)
    (hd : t.grs[i].debt = s.grs[i].debt) (hc : t.stc = s.stc) (hp : t.pins = s.pins) (hh : t.hold = s.hold) :
    t.valveWanted i = s.valveWanted i := by
  unfold State.valveWanted
  rw [hs, hd, hc, hp, hh]

theorem Ev.judgeValve_valveWanted (e : Ev) (i j : LineIndex) : (e.judgeValve i).valveWanted j = e.valveWanted j := by
  have h := (LineRecord.withValve_spec e.grs[i] (e.valveWanted i)).2
  have hg : (e.judgeValve i).grs[j] = if j = i then e.grs[i].withValve (e.valveWanted i) else e.grs[j] :=
    e.modLine_grs i j _
  refine valveWanted_congr ?_ ?_ rfl rfl rfl
  · rw [hg]; split
    · next hj => subst hj; rw [h]
    · rfl
  · rw [hg]; split
    · next hj => subst hj; rw [h]
    · rfl

/-- Judging every valve touches the lines alone, and each line by its own conditions. -/
theorem Ev.judgeValves_spec (e : Ev) :
    e.judgeValves = { e with grs := e.judgeValves.grs }
      ∧ ∀ i : LineIndex, e.judgeValves.grs[i] = e.grs[i].withValve (e.valveWanted i) := by
  have key : ∀ (ls : List LineIndex) (e : Ev), ls.Nodup →
      ls.foldl Ev.judgeValve e = { e with grs := (ls.foldl Ev.judgeValve e).grs }
        ∧ ∀ i : LineIndex, (ls.foldl Ev.judgeValve e).grs[i]
          = if i ∈ ls then e.grs[i].withValve (e.valveWanted i) else e.grs[i] := by
    intro ls
    induction ls with
    | nil => intro e _; exact ⟨rfl, fun i => by simp⟩
    | cons l ls ih =>
      intro e h
      obtain ⟨hl, hls⟩ := List.nodup_cons.1 h
      obtain ⟨h1, h2⟩ := ih (e.judgeValve l) hls
      refine ⟨by rw [List.foldl_cons, h1]; rfl, fun i => ?_⟩
      have hg : (e.judgeValve l).grs[i] = if i = l then e.grs[l].withValve (e.valveWanted l) else e.grs[i] :=
        e.modLine_grs l i _
      rw [List.foldl_cons, h2 i, Ev.judgeValve_valveWanted, hg]
      by_cases hi : i = l
      · subst hi; simp [hl]
      · simp [hi]
  obtain ⟨h1, h2⟩ := key allLines e (by decide)
  exact ⟨h1, fun i => by
    rw [show e.judgeValves = allLines.foldl Ev.judgeValve e from rfl, h2 i, if_pos (mem_allLines i)]⟩

/-- GROUT_DEBT with its hysteresis; nothing else moves. -/
theorem Ev.judgeDebt_eq (e : Ev) :
    e.judgeDebt = e.putHold .groutDebt
      (if e.lim.g.debt < e.totalDebt then true else if 2 * e.totalDebt ≤ e.lim.g.debt then false
        else e.hold.groutDebt) := by
  unfold Ev.judgeDebt
  split
  · rfl
  · split
    · rfl
    · exact (congrArg (fun h => { e with hold := h }) (HoldSet.put_has e.hold .groutDebt)).symm

/-! ## BALANCE -/

/-- BALANCE stands as the stroke and the counts have it, and its beginning is told; nothing else moves. -/
theorem Ev.judgeBalance_spec (e : Ev) :
    e.judgeBalance = { e.putHold .balance (e.stc.phase.isOpen && !e.meetsAdvance) with
      raised := e.judgeBalance.raised } := by
  unfold Ev.judgeBalance
  simp only
  split
  · next h => simp only [Bool.and_eq_true] at h; rw [show (e.stc.phase.isOpen && !e.meetsAdvance) = true by simp [h.1]]; rfl
  · rfl

/-! ## Trains -/

/-- TRAIN_FULL stands as the loading train has it, and its beginning is told; nothing else moves. -/
theorem Ev.judgeFull_spec (e : Ev) :
    e.judgeFull = { e.putHold .trainFull e.spm.full with raised := e.judgeFull.raised } := by
  unfold Ev.judgeFull
  split
  · next h =>
    simp only [Bool.and_eq_true] at h
    rw [h.1]
    split
    · next hl => simp [SpoilMonitor.full, hl] at h
    · rfl
  · rfl

theorem Ev.judgeNoTrain_eq (e : Ev) : e.judgeNoTrain = e.putHold .noTrain e.spm.loading.isNone := rfl

/-- The capacity pulses are the smallest number of pulses whose fill is at least the capacity, unless they saturate
(R114). -/
theorem capacityPulsesOf_le_iff {g : Geometry} {f capacity n : Nat} (h : 0 < g.volumePerRev * f) (hn : n < topPulses) :
    capacityPulsesOf g f capacity ≤ n ↔ capacity * g.pulsesPerRev * 1000 ≤ n * (g.volumePerRev * f) := by
  unfold capacityPulsesOf sat ceilDiv
  rw [min_le_iff, Nat.div_le_iff_le_mul_add_pred h, Nat.mul_comm (g.volumePerRev * f) n]
  omega

/-! ## The governor -/

/-- A slice already cut is not cut again; a cut goes to C_floor and halves the threshold, and is told. -/
theorem Ev.cutCeiling_spec (e : Ev) (cause : CutCause) (slice : Nat) :
    (e.rgv.cutMark = true → e.cutCeiling cause slice = e)
      ∧ (e.rgv.cutMark = false → e.cutCeiling cause slice = { e with
          rgv := ⟨e.lim.a.ceilingFloor, max (e.rgv.ceiling / 2) e.lim.a.ceilingFloor, e.rgv.overspeeds, true⟩,
          raised := e.raised ++ [.rateCut cause e.rgv.ceiling e.lim.a.ceilingFloor
            (max (e.rgv.ceiling / 2) e.lim.a.ceilingFloor) e.strokeNumber slice] }) := by
  constructor <;> intro h <;> simp only [Ev.cutCeiling, h, if_true, Bool.false_eq_true, if_false]
  rfl

/-- Recovery never carries the ceiling past the threshold it doubles to, nor past C_max (R102). -/
theorem Governor.recovered_le (g : Governor) (a : LimitsA) (ht : g.threshold ≤ a.ceilingMax) :
    g.recovered a ≤ a.ceilingMax := by
  unfold Governor.recovered; split <;> omega

theorem Governor.le_recovered (g : Governor) (a : LimitsA) (hc : g.ceiling ≤ a.ceilingMax) :
    g.ceiling ≤ g.recovered a := by
  unfold Governor.recovered; split <;> omega

theorem Governor.clampTo_mem (g : Governor) (a : LimitsA) (h : a.ceilingFloor ≤ a.ceilingMax) :
    a.ceilingFloor ≤ (g.clampTo a).ceiling ∧ (g.clampTo a).ceiling ≤ a.ceilingMax
      ∧ a.ceilingFloor ≤ (g.clampTo a).threshold ∧ (g.clampTo a).threshold ≤ a.ceilingMax := by
  simp only [Governor.clampTo, clamp]; omega

/-! ## The end of the advance -/

/-- After the final slice no slice is open and the cut-this-slice mark is no (R36, R97). -/
@[simp] theorem Ev.closeFinal_slice (e : Ev) : e.closeFinal.stc.slice = none := rfl
@[simp] theorem Ev.closeFinal_cutMark (e : Ev) : e.closeFinal.rgv.cutMark = false := rfl

/-- The end of the advance closes the open slice as partial if it has any length, and closes none otherwise (R36, R41). -/
theorem Ev.closePartial_eq (e : Ev) :
    e.closePartial = e ∨ ∃ k, e.stc.slice = some k ∧ k.start < e.stc.highWater
      ∧ e.closePartial = e.closeSlice k.index (e.stc.highWater - k.start) e.stc.sliceTimer true := by
  unfold Ev.closePartial
  split
  · exact .inl rfl
  · rename_i k h
    by_cases hk : k.start < e.stc.highWater
    · exact .inr ⟨k, h, hk, by simp [Ev.when, hk]⟩
    · exact .inl (by simp [Ev.when, hk])

end Sys2Proof.Machine
end

