-- ==== Sys2Proof/Laws/PerInstr.lean ====
section
/-! SUPPORT. One statement made per command: the bytes of the frame a command stands for. -/

namespace Sys2Proof.Laws.FrameBytes

/-- The bytes that reach the part with a command that is a frame: a valid frame's, a frame's with a wrong CRC byte, or the two
bytes after which a length byte above 56 is judged (R151, R152). A command that is no frame has none. -/
def frame : Instr → Option (List Byte)
  | .takeNotice _ body => some (Machine.frameOf (Request.code .takeNotice) body)
  | .read _ body => some (Machine.frameOf (Request.code .read) body)
  | .linkClear _ body => some (Machine.frameOf (Request.code .linkClear) body)
  | .setLimits _ body => some (Machine.frameOf (Request.code .setLimits) body)
  | .configure _ body => some (Machine.frameOf (Request.code .configure) body)
  | .planStroke _ body => some (Machine.frameOf (Request.code .planStroke) body)
  | .strokeOpen _ body => some (Machine.frameOf (Request.code .strokeOpen) body)
  | .strokeEnd _ body => some (Machine.frameOf (Request.code .strokeEnd) body)
  | .strokeAbort _ body => some (Machine.frameOf (Request.code .strokeAbort) body)
  | .hold _ body => some (Machine.frameOf (Request.code .hold) body)
  | .resume _ body => some (Machine.frameOf (Request.code .resume) body)
  | .shoeReset _ body => some (Machine.frameOf (Request.code .shoeReset) body)
  | .planPieces _ body => some (Machine.frameOf (Request.code .planPieces) body)
  | .claim _ body => some (Machine.frameOf (Request.code .claim) body)
  | .withdraw _ body => some (Machine.frameOf (Request.code .withdraw) body)
  | .claimDone _ body => some (Machine.frameOf (Request.code .claimDone) body)
  | .cancel _ body => some (Machine.frameOf (Request.code .cancel) body)
  | .planGroutSet _ body => some (Machine.frameOf (Request.code .planGroutSet) body)
  | .planGroutDrop _ body => some (Machine.frameOf (Request.code .planGroutDrop) body)
  | .planGroutClear _ body => some (Machine.frameOf (Request.code .planGroutClear) body)
  | .linePressure _ body => some (Machine.frameOf (Request.code .linePressure) body)
  | .lineClear _ body => some (Machine.frameOf (Request.code .lineClear) body)
  | .planFace _ body => some (Machine.frameOf (Request.code .planFace) body)
  | .facePressure _ body => some (Machine.frameOf (Request.code .facePressure) body)
  | .trainIn _ body => some (Machine.frameOf (Request.code .trainIn) body)
  | .trainDepart _ body => some (Machine.frameOf (Request.code .trainDepart) body)
  | .unknownRequest _ code body => some (Machine.frameOf code body)
  | .frameError _ code body crc => some (frameBytes code body ++ [crc])
  | .frameLengthError _ code length => some [code, length]
  | .estopAssert => none
  | .estopRelease => none
  | .screwPulse => none
  | .powerOn => none
  | .resetNAssert => none
  | .resetEnd => none
  | .clockFallback => none
  | .clockRestored => none
  | .timebaseTick => none
  | .drainTimeout => none
  | .stalenessTimeout => none
  | .drainCompletion => none
  | .claimGrant => none
  | .strokeToBuild => none
  | .selectRelease _ => none
  | .selectAssert _ => none
  | .pumpPulse _ => none
  | .seatedAsserts _ => none
  | .seatedDrops _ => none
  | .moveTimeout _ => none
  | .noPulseTimeout _ => none
  | .backoffExpiry _ => none
  | .probeWindowExpiry _ => none
  | .silenceTimeout _ => none
  | .checkTimerExpiry _ => none
  | .travelStep _ _ => none
  | .retractedLimitChange _ _ => none

/-- The bytes are those of a valid frame: a code, a length of at most 56, a body of that length and the right CRC (R151). -/
def IsFrame (bs : List Byte) : Prop := ∃ (code : Byte) (body : List Byte), body.length ≤ 56 ∧ bs = Machine.frameOf code body

/-- A well-formed command has frame bytes exactly if it arrives on a link; they number at most 59; and they are a valid frame
exactly if the command is one that the part takes as a valid frame. -/
def Statement (i : Instr) : Prop :=
  i.wellFormed = true → (frame i).isSome = i.frameLink.isSome
    ∧ ∀ bs, frame i = some bs → bs.length ≤ 59 ∧ (i.isValidFrame = true ↔ IsFrame bs)

/-- A frame of at most 56 body bytes is a valid frame of at most 59 bytes. -/
theorem frameOf_spec {code : Byte} {body : List Byte} (h : bodyFits body = true) :
    (Machine.frameOf code body).length ≤ 59 ∧ IsFrame (Machine.frameOf code body) := by
  have hb : body.length ≤ 56 := of_decide_eq_true h
  exact ⟨by simp [Machine.frameOf, frameBytes]; omega, code, body, hb, rfl⟩

/-- A frame with a wrong CRC byte is no valid frame. -/
theorem wrong_crc_not_frame {code : Byte} {body : List Byte} {crc : Byte} (hc : crc ≠ crc8 (frameBytes code body)) :
    ¬ IsFrame (frameBytes code body ++ [crc]) := by
  rintro ⟨c, b, _, h⟩
  obtain ⟨h1, h2⟩ := List.append_inj' h rfl
  rw [h1] at hc
  exact hc (by simpa using h2)

/-- The two bytes before a length above 56 are no valid frame. -/
theorem two_bytes_not_frame (code length : Byte) : ¬ IsFrame [code, length] := by
  rintro ⟨c, b, _, h⟩
  have := congrArg List.length h
  simp [Machine.frameOf, frameBytes] at this

/-- What every request comes to. -/
theorem request_spec {i : Instr} {code : Byte} {body : List Byte} (hf : frame i = some (Machine.frameOf code body))
    (hl : i.frameLink.isSome = true) (hv : i.isValidFrame = true) (h : bodyFits body = true) :
    (frame i).isSome = i.frameLink.isSome ∧ ∀ bs, frame i = some bs → bs.length ≤ 59 ∧ (i.isValidFrame = true ↔ IsFrame bs) := by
  refine ⟨by rw [hf, hl]; rfl, fun bs hbs => ?_⟩
  obtain rfl : Machine.frameOf code body = bs := by rw [hf] at hbs; exact Option.some.inj hbs
  exact ⟨(frameOf_spec h).1, fun _ => (frameOf_spec h).2, fun _ => hv⟩

/-- What every command that is no frame comes to. -/
theorem noframe_spec {i : Instr} (hf : frame i = none) (hl : i.frameLink.isSome = false) :
    (frame i).isSome = i.frameLink.isSome ∧ ∀ bs, frame i = some bs → bs.length ≤ 59 ∧ (i.isValidFrame = true ↔ IsFrame bs) :=
  ⟨by rw [hf, hl]; rfl, fun bs hbs => by rw [hf] at hbs; cases hbs⟩

theorem takeNotice (l : Link) (body : List Byte) : Statement (.takeNotice l body) := fun h => request_spec rfl rfl rfl h
theorem read (l : Link) (body : List Byte) : Statement (.read l body) := fun h => request_spec rfl rfl rfl h
theorem linkClear (l : Link) (body : List Byte) : Statement (.linkClear l body) := fun h => request_spec rfl rfl rfl h
theorem setLimits (l : Link) (body : List Byte) : Statement (.setLimits l body) := fun h => request_spec rfl rfl rfl h
theorem configure (l : Link) (body : List Byte) : Statement (.configure l body) := fun h => request_spec rfl rfl rfl h
theorem planStroke (l : Link) (body : List Byte) : Statement (.planStroke l body) := fun h => request_spec rfl rfl rfl h
theorem strokeOpen (l : Link) (body : List Byte) : Statement (.strokeOpen l body) := fun h => request_spec rfl rfl rfl h
theorem strokeEnd (l : Link) (body : List Byte) : Statement (.strokeEnd l body) := fun h => request_spec rfl rfl rfl h
theorem strokeAbort (l : Link) (body : List Byte) : Statement (.strokeAbort l body) := fun h => request_spec rfl rfl rfl h
theorem hold (l : Link) (body : List Byte) : Statement (.hold l body) := fun h => request_spec rfl rfl rfl h
theorem resume (l : Link) (body : List Byte) : Statement (.resume l body) := fun h => request_spec rfl rfl rfl h
theorem shoeReset (l : Link) (body : List Byte) : Statement (.shoeReset l body) := fun h => request_spec rfl rfl rfl h
theorem planPieces (l : Link) (body : List Byte) : Statement (.planPieces l body) := fun h => request_spec rfl rfl rfl h
theorem claim (l : Link) (body : List Byte) : Statement (.claim l body) := fun h => request_spec rfl rfl rfl h
theorem withdraw (l : Link) (body : List Byte) : Statement (.withdraw l body) := fun h => request_spec rfl rfl rfl h
theorem claimDone (l : Link) (body : List Byte) : Statement (.claimDone l body) := fun h => request_spec rfl rfl rfl h
theorem cancel (l : Link) (body : List Byte) : Statement (.cancel l body) := fun h => request_spec rfl rfl rfl h
theorem planGroutSet (l : Link) (body : List Byte) : Statement (.planGroutSet l body) := fun h => request_spec rfl rfl rfl h
theorem planGroutDrop (l : Link) (body : List Byte) : Statement (.planGroutDrop l body) := fun h => request_spec rfl rfl rfl h
theorem planGroutClear (l : Link) (body : List Byte) : Statement (.planGroutClear l body) := fun h => request_spec rfl rfl rfl h
theorem linePressure (l : Link) (body : List Byte) : Statement (.linePressure l body) := fun h => request_spec rfl rfl rfl h
theorem lineClear (l : Link) (body : List Byte) : Statement (.lineClear l body) := fun h => request_spec rfl rfl rfl h
theorem planFace (l : Link) (body : List Byte) : Statement (.planFace l body) := fun h => request_spec rfl rfl rfl h
theorem facePressure (l : Link) (body : List Byte) : Statement (.facePressure l body) := fun h => request_spec rfl rfl rfl h
theorem trainIn (l : Link) (body : List Byte) : Statement (.trainIn l body) := fun h => request_spec rfl rfl rfl h
theorem trainDepart (l : Link) (body : List Byte) : Statement (.trainDepart l body) := fun h => request_spec rfl rfl rfl h

theorem unknownRequest (l : Link) (code : Byte) (body : List Byte) : Statement (.unknownRequest l code body) := fun h =>
  request_spec rfl rfl rfl (Bool.and_eq_true_iff.1 h).1

theorem frameError (l : Link) (code : Byte) (body : List Byte) (crc : Byte) : Statement (.frameError l code body crc) := by
  intro h
  obtain ⟨h1, h2⟩ := Bool.and_eq_true_iff.1 h
  have hb : body.length ≤ 56 := of_decide_eq_true h1
  refine ⟨rfl, fun bs hbs => ?_⟩
  obtain rfl := Option.some.inj hbs
  refine ⟨by simp [frameBytes]; omega, fun hv => by simp [Instr.isValidFrame] at hv, fun hv => ?_⟩
  exact absurd hv (wrong_crc_not_frame (by simpa using h2))

theorem frameLengthError (l : Link) (code length : Byte) : Statement (.frameLengthError l code length) := by
  intro _
  refine ⟨rfl, fun bs hbs => ?_⟩
  obtain rfl := Option.some.inj hbs
  exact ⟨by simp, fun hv => by simp [Instr.isValidFrame] at hv, fun hv => absurd hv (two_bytes_not_frame _ _)⟩

theorem estopAssert : Statement .estopAssert := fun _ => noframe_spec rfl rfl
theorem estopRelease : Statement .estopRelease := fun _ => noframe_spec rfl rfl
theorem screwPulse : Statement .screwPulse := fun _ => noframe_spec rfl rfl
theorem powerOn : Statement .powerOn := fun _ => noframe_spec rfl rfl
theorem resetNAssert : Statement .resetNAssert := fun _ => noframe_spec rfl rfl
theorem resetEnd : Statement .resetEnd := fun _ => noframe_spec rfl rfl
theorem clockFallback : Statement .clockFallback := fun _ => noframe_spec rfl rfl
theorem clockRestored : Statement .clockRestored := fun _ => noframe_spec rfl rfl
theorem timebaseTick : Statement .timebaseTick := fun _ => noframe_spec rfl rfl
theorem drainTimeout : Statement .drainTimeout := fun _ => noframe_spec rfl rfl
theorem stalenessTimeout : Statement .stalenessTimeout := fun _ => noframe_spec rfl rfl
theorem drainCompletion : Statement .drainCompletion := fun _ => noframe_spec rfl rfl
theorem claimGrant : Statement .claimGrant := fun _ => noframe_spec rfl rfl
theorem strokeToBuild : Statement .strokeToBuild := fun _ => noframe_spec rfl rfl
theorem selectRelease (x : Link) : Statement (.selectRelease x) := fun _ => noframe_spec rfl rfl
theorem selectAssert (x : Link) : Statement (.selectAssert x) := fun _ => noframe_spec rfl rfl
theorem pumpPulse (x : LineIndex) : Statement (.pumpPulse x) := fun _ => noframe_spec rfl rfl
theorem seatedAsserts (x : ShoeIndex) : Statement (.seatedAsserts x) := fun _ => noframe_spec rfl rfl
theorem seatedDrops (x : ShoeIndex) : Statement (.seatedDrops x) := fun _ => noframe_spec rfl rfl
theorem moveTimeout (x : ShoeIndex) : Statement (.moveTimeout x) := fun _ => noframe_spec rfl rfl
theorem noPulseTimeout (x : LineIndex) : Statement (.noPulseTimeout x) := fun _ => noframe_spec rfl rfl
theorem backoffExpiry (x : LineIndex) : Statement (.backoffExpiry x) := fun _ => noframe_spec rfl rfl
theorem probeWindowExpiry (x : LineIndex) : Statement (.probeWindowExpiry x) := fun _ => noframe_spec rfl rfl
theorem silenceTimeout (x : Link) : Statement (.silenceTimeout x) := fun _ => noframe_spec rfl rfl
theorem checkTimerExpiry (x : Link) : Statement (.checkTimerExpiry x) := fun _ => noframe_spec rfl rfl
theorem travelStep (p q : Bool) : Statement (.travelStep p q) := fun _ => noframe_spec rfl rfl
theorem retractedLimitChange (i : ShoeIndex) (b : Bool) : Statement (.retractedLimitChange i b) := fun _ =>
  noframe_spec rfl rfl

end Sys2Proof.Laws.FrameBytes
end

