-- ==== Sys2Proof/Tests/Slice0.lean ====
section
/-! SUPPORT. Small tests: what each check of well-formedness refuses, single steps whose results are the spec's own figures,
and for every statement a state and operands that meet its hypotheses. -/

namespace Sys2Proof.Tests

set_option Elab.async false

open Sys2Proof.Machine

/-! ## Small states -/

/-- A ring of five pieces whose stroke is planned to end at 600 mm. -/
def plan : PlanRing where
  number := 620
  pieces := some [⟨1, 0, 4⟩, ⟨2, 4, 4⟩, ⟨3, 8, 4⟩, ⟨4, 12, 2⟩, ⟨5, 14, 2⟩]
  target := some 600
  endAtTarget := true
  face := ⟨280, 320, 30, 850, 1250⟩
  marks := ⟨.given, .given, .given, .given⟩
  chains := #v[[⟨0, 250, 1500⟩, ⟨500, 0, 1500⟩], [], [], [], [], []]

/-- That ring in STROKE. -/
def ring : StrokeRing := ⟨plan.toRingPlan, some plan.chains, StrokeResult.zero, RingFlags.clear⟩

/-- That ring in BUILD. -/
def built : BuiltRing := ⟨plan.toRingPlan, StrokeResult.zero, RingFlags.clear, []⟩

/-- The geometry of the manual's worked examples. -/
def geo : Geometry := ⟨6630, 6300, 20, 64, 3100, Vector.replicate 6 20, 34523766, 3351224⟩

/-- A configured part with that ring in PLAN and no stroke. -/
def configured : State :=
  { State.reset with
    configured := true, geo := geo, rst := { RingStore.initial with plan := some plan, free := 30 } }

/-- The part with a stroke in this state at this high-water mark, slice 1 open, and an empty hold-cause set in ADVANCING. -/
def stroking (phase : StrokePhase) (h : Nat) : State :=
  { configured with
    rst := { configured.rst with stroke := some ring, plan := some { plan with number := 621 }, free := 28 }
    stc := ⟨phase, h, h, true, if phase = .draining then none else some ⟨1, 0⟩, 0, Timer.rest⟩
    hold := if phase = .advancing then HoldSet.empty else State.reset.hold }

/-- That part with 150 counts of slice 1 behind it and their void not yet charged. -/
def partway (phase : StrokePhase) : State :=
  { stroking phase 150 with
    rst := { (stroking phase 150).rst with
      stroke := some { ring with result := { ring.result with highWater := 150, void := 502 } } } }

/-- The part advancing with a train under the conveyor. -/
def loaded : State :=
  { stroking .advancing 5 with
    spm := { (stroking .advancing 5).spm with loading := some ⟨7, 10000, some 850, some 243, 242, true⟩ } }

/-- The part with a record for line 0. -/
def withLine (s : State) (f : LineRecord → LineRecord) : State := { s with grs := s.grs.set 0 (f s.grs[0]) }

/-- The part with a record for shoe 0. -/
def withShoe (s : State) (f : ShoeRecord → ShoeRecord) : State := { s with sht := s.sht.set 0 (f s.sht[0]) }

/-- The part with a silence state for a link. -/
def withSilence (s : State) (l : Link) (c : Silence) : State :=
  { s with lif := s.lif.set l { s.lif.get l with silence := c } }

/-- A link in lapse. -/
def inLapse : Silence := ⟨true, .lapsed, 0, Timer.rest, Timer.rest⟩

/-- The configured part with a ring in BUILD and this queue of claims. -/
def claiming (queue : List Claim) : State :=
  { configured with rst := { configured.rst with build := some built }, bla := ⟨queue, 1⟩ }

/-- A claim for piece 1, which spans shoes 0 to 3. -/
def claim1 (state : ClaimState) : Claim := ⟨0, .place, 1, 0, 4, state⟩

/-- The part with the four shoes of claim 1 in this state and, of them, shoe 0 in that one. -/
def shoesOfClaim1 (s : State) (state first : ShoeState) (seated : Bool) : State :=
  let r : ShoeRecord := ⟨state, none, some 0, Timer.rest⟩
  { s with
    sht := ((((s.sht.set 1 r).set 2 r).set 3 r).set 0 { r with state := first })
    pins := { s.pins with seated := (((s.pins.seated.set 0 false).set 1 seated).set 2 seated).set 3 seated } }

/-- The state an answer leads to. -/
def next (o : Answer) : State :=
  match o with
  | .next t => t
  | .fault _ | .refused _ => State.reset

/-- The part held in reset after a power-on. -/
def held : State := next (exec .powerOn State.reset)

/-! ## Well-formedness: one ill-formed term for each check -/

theorem test_body_too_long : (Instr.hold .advance (List.replicate 57 0#8)).wellFormed = false := by decide +kernel
theorem test_longest_body : (Instr.hold .advance (List.replicate 56 0#8)).wellFormed = true := by decide +kernel
theorem test_known_code_is_no_unknown : (Instr.unknownRequest .spoil 0x15#8 []).wellFormed = false := by decide +kernel
theorem test_right_crc_is_no_error : (Instr.frameError .spoil 0x01#8 [] 0x75#8).wellFormed = false := by decide +kernel
theorem test_length_56_is_no_error : (Instr.frameLengthError .spoil 0x01#8 56#8).wellFormed = false := by decide +kernel
theorem test_ill_formed_is_refused :
    exec (.frameLengthError .spoil 0x01#8 56#8) State.reset = .refused .illFormed := rfl

/-! ## Figures of the manual -/

/-- The worked CRC of section 10.2: code 01h and length 00h fold to 75h. -/
theorem test_crc_of_take_notice : crc8 [0x01#8, 0x00#8] = 0x75#8 := by decide +kernel

/-- Section 5.1's example: cut 6,630 mm and ring 6,300 mm give these two areas. -/
theorem test_areas : (configureBody (num2 6630 ++ num2 6300 ++ num1 20 ++ num2 64 ++ num2 3100
    ++ (List.replicate 6 (num2 20)).flatten ++ num2 620)).geometry = geo := by decide +kernel

/-- R8's example of a list whose spans add to 16 and still fail: shoes 15 and 0 are claimed differently. -/
theorem test_spans_that_do_not_tile :
    tiling 7 [⟨1, 6, 3⟩, ⟨2, 9, 3⟩, ⟨3, 3, 3⟩, ⟨4, 12, 2⟩, ⟨5, 1, 2⟩, ⟨6, 14, 2⟩, ⟨7, 15, 1⟩] = none := by
  decide +kernel

/-- R101's example: with the ceiling at 80 and the margin at 100, a rate of 88 is within and 89 is overspeed. -/
theorem test_overspeed_boundary :
    let s := { State.reset with rgv := ⟨80, 80, 0, false⟩ }
    s.overspeed 88 = false ∧ s.overspeed 89 = true := by decide +kernel

/-- R16's example: entries at 0 and 1,200 mm give 150 at 1,199 and 100 from 1,200; a first entry at 300 none at 299. -/
theorem test_active_entries :
    activeEntry [⟨0, 150, 1200⟩, ⟨1200, 100, 1000⟩] 1199 = some ⟨0, 150, 1200⟩
      ∧ activeEntry [⟨0, 150, 1200⟩, ⟨1200, 100, 1000⟩] 1200 = some ⟨1200, 100, 1000⟩
      ∧ activeEntry [⟨300, 150, 1200⟩] 299 = none := by decide +kernel

/-- A request before CONFIGURE is refused with WRONG_STATE on its own link, NOT_PERMITTED on another (R153). -/
theorem test_order_of_judgement :
    (next (exec (.hold .advance []) State.reset)).lif.advance.last.map Response.result = some .wrongState
      ∧ (next (exec (.hold .spoil []) State.reset)).lif.spoil.last.map Response.result = some .notPermitted := by
  decide +kernel

/-- R150: in one select period the data output is 00h while the request comes in and for two bytes after it, then the
response, then 00h again; it is undriven once the select is released. -/
theorem test_data_out :
    let r := next (exec (.selectAssert .spoil) State.reset)
    let a := next (exec (.takeNotice .spoil []) r)
    let e := next (exec (.selectRelease .spoil) a)
    r.dataOut .spoil 7 = some 0#8 ∧ a.dataOut .spoil 1 = some 0#8
      ∧ a.dataOut .spoil 11 = ((a.lif.get .spoil).response.bind fun x => x.bytes[9]?)
      ∧ a.dataOut .spoil 999 = some 0#8 ∧ e.dataOut .spoil 2 = none := by decide +kernel

/-- R97: a slice cut by a face report and ended with no length leaves the cut-this-slice mark at no. -/
theorem test_cut_slice_of_no_length :
    let s := { stroking .advancing 0 with rgv := ⟨10, 40, 0, true⟩ }
    (next (exec (.strokeEnd .advance []) s)).rgv.cutMark = false
      ∧ (next (exec (.strokeAbort .advance []) s)).rgv.cutMark = false := by decide +kernel

/-- R161 and R17: CONFIGURE with a ring in STROKE or in BUILD, with a field one outside its range, and at the ends of the
ranges. -/
theorem test_configure_results :
    let body (cut ring first : Nat) := num2 cut ++ num2 ring ++ num1 10 ++ num2 256 ++ num2 100
      ++ (List.replicate 6 (num2 5)).flatten ++ num2 first
    let result (s : State) (b : List Byte) := (next (exec (.configure .advance b) s)).lif.advance.last.map Response.result
    result (stroking .held 0) (body 3000 2980 0) = some .wrongState
      ∧ result (stroking .ended 0) (body 2999 2980 0) = some .wrongState
      ∧ result (claiming []) (body 3000 2980 0) = some .wrongState
      ∧ result State.reset (body 3000 2981 0) = some .badValue
      ∧ result State.reset (body 3000 2980 65535) = some .badValue
      ∧ result State.reset (body 3000 2980 65534) = some .ok := by decide +kernel

/-- HOLD moves ADVANCING to HELD, drops the permit and tells Link A (R29, R24). -/
theorem test_hold :
    let t := next (exec (.hold .advance []) (stroking .advancing 0))
    t.stc.phase = .held ∧ t.permit = false ∧ (t.ntu.advance.map fun r => r.notice.kind) = [0, 5] := by decide +kernel

/-- The forward step to 200 counts of a 20 mm slice closes slice 1 and opens slice 2 (R33). -/
theorem test_slice_boundary :
    let t := next (exec (.travelStep true false) (stroking .advancing 199))
    t.stc.slice = some ⟨2, 200⟩ ∧ t.bal.window.map SliceRecord.length = [200] := by decide +kernel

/-- Both phases changing together are no step (R31). -/
theorem test_no_step : (next (exec (.travelStep true true) (stroking .advancing 100))).stc.position = 100 := by
  decide +kernel

/-- A shoe whose seated input drops in BEARING goes to FAULT with LOST_BEARING, and its drive to LOCK (R49, R44). -/
theorem test_lost_bearing :
    let t := next (exec (.seatedDrops 3) (stroking .advancing 0))
    t.sht[3].reason = some .lostBearing ∧ t.drive 3 = .lock ∧ t.drive 4 = .extendPush := by decide +kernel

/-- A granted claim's shoes retract under it (R65, R46). -/
theorem test_claim_is_granted :
    let t := next (exec (.claim .erector (num2 1)) (claiming []))
    t.sht[3].state = .retracting ∧ t.sht[3].owner = some 1 ∧ t.sht[4].state = .bearing ∧ t.bla.counter = 2 := by
  decide +kernel

/-- A pump pulse against a closed valve tells Link G alone, with the first reason that holds (R128). -/
theorem test_dead_pulse :
    (next (exec (.pumpPulse 2) configured)).ntu.grout.getLast?.map NoticeRecord.notice
      = some (.pumpDead 2 .closed 0 .noStroke) := by decide +kernel

/-- The running time wraps (R141). -/
theorem test_running_time_wraps :
    (next (exec .timebaseTick { State.reset with tmb := { State.reset.tmb with running := 4294967295 } })).tmb.running
      = 0 := by decide +kernel

/-- The queue is first in, first out. -/
theorem test_queue_order :
    (next (step { State.reset with pending := [.screwPulse, .estopAssert] })).pending = [.estopAssert] := by
  decide +kernel

/-! ## For every statement a state and operands that meet its hypotheses -/

theorem test_witness_ResetHoldsThePart :
    held.running = false ∧ Instr.screwPulse.wellFormed = true ∧ Instr.screwPulse ≠ .powerOn
      ∧ Instr.screwPulse ≠ .resetNAssert ∧ Instr.screwPulse ≠ .resetEnd := by decide +kernel

theorem test_witness_ResetEndFormsState :
    State.reset.running = true ∧ held.tmb.held = some .powerOn ∧ held.pins = Pins.initial
      ∧ (next (exec .resetNAssert State.reset)).tmb.held = some .resetPin := by decide +kernel

theorem test_witness_TimebaseTicksAndFallsOver :
    (stroking .advancing 5).running = true ∧ (stroking .advancing 5).steady = true
      ∧ (stroking .advancing 5).noneDue = true := by decide +kernel

theorem test_witness_SelectPeriodCarriesOneTransaction :
    let u := next (exec (.selectAssert .advance) configured)
    let v := next (exec (.hold .advance []) u)
    configured.running = true ∧ configured.steady = true ∧ (Instr.hold .advance []).wellFormed = true
      ∧ (Instr.hold .advance []).frameLink = some .advance ∧ (configured.lif.get .advance).phase = .released
      ∧ u.running = true ∧ u.steady = true ∧ (u.lif.get .advance).phase = .receiving
      ∧ v.running = true ∧ v.steady = true ∧ (v.lif.get .advance).phase = .answered
      ∧ ((v.lif.get .advance).response.map fun r => r.summary.length) = some 9 := by decide +kernel

theorem test_witness_FramesRefusedInOrder_errors :
    State.reset.receives .grout = true ∧ ([] : List Byte).length ≤ 56
      ∧ (0x00#8 : Byte) ≠ crc8 (0x01#8 :: BitVec.ofNat 8 0 :: []) ∧ (List.replicate 56 0#8).length ≤ 56
      ∧ 56 < (57#8 : Byte).toNat ∧ 56 < (255#8 : Byte).toNat := by decide +kernel

theorem test_witness_FramesRefusedInOrder_codes :
    State.reset.hears .grout = true ∧ ∀ q : Request, q.code ≠ 0xFF#8 :=
  ⟨by decide +kernel, fun q => by cases q <;> decide⟩

theorem test_witness_FramesRefusedInOrder_requests :
    Request.hold.allowedOn .grout = false
      ∧ (Request.hold.allowedOn .advance = true ∧ State.reset.configured = false ∧ Request.hold.early = false)
      ∧ (Request.hold.allowedOn .advance = true ∧ configured.configured = true ∧ Request.hold.lengthOK .advance 1 = false)
      := by decide +kernel

theorem test_witness_ValidFrameEndsLapse :
    (Instr.hold .advance []).wellFormed = true ∧ (Instr.hold .advance []).isValidFrame = true
      ∧ (Instr.hold .advance []).frameLink = some .advance
      ∧ (withSilence State.reset .advance inLapse).receives .advance = true
      ∧ ((withSilence State.reset .advance inLapse).lif.get .advance).silence.phase = .lapsed
      ∧ lapseCause .advance = some .advanceLapse
      ∧ (∀ body, Instr.hold .advance [] ≠ .takeNotice .advance body ∧ Instr.hold .advance [] ≠ .linkClear .advance body) :=
  ⟨by decide +kernel, by decide +kernel, by decide +kernel, by decide +kernel, by decide +kernel, rfl,
    fun _ => ⟨nofun, nofun⟩⟩

/-- A Link G in lapse with a probe whose window is paused one ms short of its limit. -/
theorem test_witness_ValidFrameEndsLapse_grout :
    let s := withLine (withSilence { stroking .held 5 with hold := { (stroking .held 5).hold with groutLapse := true } }
        .grout inLapse) fun r => { r with state := .probing, debt := 20, window := ⟨.paused, 2999⟩ }
    s.receives .grout = true ∧ s.steady = true ∧ ([] : List Byte).length ≤ 56
      ∧ (s.lif.get .grout).silence.phase = .lapsed
      ∧ (∀ i : LineIndex, s.grs[i].state = .probing → s.grs[i].window.elapsed < s.lim.g.probe)
      ∧ (s.stc.phase = .draining → s.drained = false)
      ∧ (next (exec (.unknownRequest .grout 0xFF#8 []) s)).grs[(0 : LineIndex)].window = ⟨.running, 2999⟩ := by decide +kernel

theorem test_witness_TakeNoticeTakesHighestEarliest :
    (State.reset.hears .spoil = true
      ∧ State.reset.ntu.get .spoil = [] ++ restartRecord .powerOn :: [])
    ∧ ({ State.reset with ntu := PerLink.all [] }.hears .spoil = true
      ∧ ({ State.reset with ntu := PerLink.all [] } : State).ntu.get .spoil = []) := by decide +kernel

theorem test_witness_TakeNoticeTakesHighestEarliest_order :
    let r : NoticeRecord := ⟨.estop true, 0, 0, 0⟩
    (∀ o ∈ [(⟨.hold HoldSet.empty, 0, 0, 0⟩ : NoticeRecord)], r.notice.noticeClass < o.notice.noticeClass)
      ∧ ∀ o ∈ [(⟨.lapse .grout true, 0, 0, 0⟩ : NoticeRecord)], r.notice.noticeClass ≤ o.notice.noticeClass := by
  decide +kernel

theorem test_witness_LinkClearEmptiesOwnList :
    (State.reset.receives .grout = true ∧ State.reset.steady = true ∧ (State.reset.lif.get .grout).silence.phase ≠ .lapsed)
      ∧ (withSilence State.reset .grout inLapse).receives .grout = true
      ∧ (withSilence State.reset .grout inLapse).steady = true
      ∧ ((withSilence State.reset .grout inLapse).lif.get .grout).silence.phase = .lapsed := by decide +kernel

theorem test_witness_RaiseMergesByKey :
    let r : NoticeRecord := ⟨.estop true, 0, 0, 255⟩
    let o : NoticeRecord := ⟨.lapse .grout true, 0, 0, 0⟩
    (∀ x ∈ [o], x.notice.key ≠ (Notice.estop false).key) ∧ r.notice.key = (Notice.estop false).key
      ∧ Link.spoil ∉ (Notice.hold HoldSet.empty).links ∧ Link.advance ∈ (Notice.hold HoldSet.empty).links := by
  decide +kernel

theorem test_witness_ReadAnswersParts :
    State.reset.hears .spoil = true ∧ State.reset.readFields 0 0 = none ∧ State.reset.readFields 12 0 = none
      ∧ State.reset.readFields 1 12 = none ∧ State.reset.readFields 9 4 = none
      ∧ (State.reset.readFields 1 11).isSome = true ∧ (State.reset.readFields 9 3).isSome = true
      ∧ (State.reset.readFields 11 0).isSome = true := by decide +kernel

theorem test_witness_ConfigureSetsUpThePart :
    (State.reset.hears .advance = true ∧ State.reset.stc.phase = .none ∧ State.reset.rst.stroke = none
      ∧ State.reset.rst.build = none ∧ (∀ i : LineIndex, geo.displacement[i] < 65536))
      ∧ (∀ i : LineIndex, 5 ≤ (Vector.replicate 6 5)[i] ∧ (Vector.replicate 6 500)[i] ≤ 500) := by
  decide +kernel

/-- The refusals: a stroke open, a stroke ended and waiting with a ring in BUILD, a ring in BUILD alone; and with both empty
each field one outside its range. -/
theorem test_witness_ConfigureSetsUpThePart_refused :
    ((stroking .held 0).hears .advance = true ∧ (stroking .held 0).rst.stroke ≠ none
      ∧ (stroking .held 0).stc.phase = .held)
      ∧ ((stroking .ended 0).hears .advance = true ∧ (stroking .ended 0).rst.stroke ≠ none)
      ∧ ((claiming []).hears .advance = true ∧ (claiming []).rst.stroke = none ∧ (claiming []).rst.build ≠ none)
      ∧ ¬ 3000 ≤ 2999 ∧ ¬ 12001 ≤ 12000 ∧ ¬ 2800 ≤ 2799 ∧ ¬ 2981 + 20 ≤ 3000 ∧ ¬ 10 ≤ 9 ∧ ¬ 51 ≤ 50 ∧ ¬ 8 ≤ 7
      ∧ ¬ 257 ≤ 256 ∧ ¬ 100 ≤ 99 ∧ ¬ 20001 ≤ 20000 ∧ ¬ 5 ≤ 4 ∧ ¬ 501 ≤ 500 ∧ ¬ 65535 ≤ 65534 := by decide +kernel

theorem test_witness_SetLimits :
    State.reset.hears .advance = true ∧ State.reset.hears .erector = true ∧ State.reset.hears .grout = true
      ∧ State.reset.hears .spoil = true ∧ (stroking .held 5).stc.phase.isOpen = true
      ∧ State.reset.stc.phase ≠ .draining := by decide +kernel

theorem test_witness_SetLimitsAdvanceStores_timers :
    let s := withShoe configured fun r => { r with state := .retracting, timer := ⟨.running, 30000⟩ }
    let u := withShoe configured fun r => { r with state := .extending, timer := ⟨.running, 5000⟩ }
    s.hears .advance = true ∧ s.sht[(0 : ShoeIndex)].timer.run = .running ∧ s.sht[(0 : ShoeIndex)].state = .retracting
      ∧ clamp 5000 120000 20000 ≠ s.lim.a.retract ∧ clamp 5000 120000 20000 ≤ s.sht[(0 : ShoeIndex)].timer.elapsed
      ∧ u.sht[(0 : ShoeIndex)].state = .extending ∧ clamp 5000 120000 0 ≠ u.lim.a.extend
      ∧ clamp 5000 120000 0 ≤ u.sht[(0 : ShoeIndex)].timer.elapsed := by decide +kernel

/-- A T_block, a B0, a W_probe and a T_drain that the timers have reached: a line that blocks, one that probes, one that fails
for good, and a drain timer at its new limit; with the failed line the last to owe, the drain completes instead. -/
theorem test_witness_SetLimitsGroutStores_timers :
    let s := stroking .draining 150
    let b := withLine s fun r =>
      { r with state := .opened, debt := 20, valve := true, pressure := some 1500, noPulse := ⟨.running, 1000⟩ }
    let p := withLine s fun r => { r with state := .blocked, debt := 20, backoff := 1000, backoffTimer := ⟨.running, 5000⟩ }
    let w := withLine s fun r => { r with state := .probing, debt := 20, window := ⟨.running, 500⟩, probes := 4 }
    let d := { p with stc := { p.stc with drainTimer := ⟨.running, 10000⟩ } }
    b.hears .grout = true ∧ b.pressed 0 (b.lineCeiling 0) = true ∧ clamp 1000 30000 0 ≠ b.lim.g.block
      ∧ clamp 1000 30000 0 ≤ b.grs[(0 : LineIndex)].noPulse.elapsed
      ∧ p.hears .grout = true ∧ p.grs[(0 : LineIndex)].backoff < clamp 1000 60000 5000
      ∧ clamp 1000 60000 5000 ≤ p.grs[(0 : LineIndex)].backoffTimer.elapsed
      ∧ w.hears .grout = true ∧ clamp 500 10000 0 ≠ w.lim.g.probe
      ∧ clamp 500 10000 0 ≤ w.grs[(0 : LineIndex)].window.elapsed
      ∧ w.settledWith (w.lineStates.set 0 .failed) w.lineDebts = true
      ∧ d.hears .grout = true ∧ d.settledWith d.lineStates d.lineDebts = false
      ∧ clamp 10000 600000 0 ≠ d.lim.g.drain ∧ clamp 10000 600000 0 ≤ d.stc.drainTimer.elapsed := by decide +kernel

theorem test_witness_PlanWrites :
    configured.hears .erector = true ∧ configured.hears .advance = true ∧ configured.hears .spoil = true
      ∧ configured.hears .grout = true ∧ configured.configured = true ∧ configured.rst.plan = some plan := by
  decide +kernel

theorem test_witness_PlanGrout : chainsLawful plan.chains := by unfold chainsLawful; decide +kernel

theorem test_witness_PlanGrout_clauses :
    let p : PlanRing := { plan with chains := plan.chains.set 1 (List.replicate 4 ⟨0, 0, 100⟩) }
    (6 ≤ (6#8 : Byte).toNat ∧ ¬ 2401 ≤ 2400 ∧ 2400 ≤ 2400)
      ∧ ((∀ g ∈ p.chains[(1 : LineIndex)], g.start ≠ 1) ∧ 4 ≤ p.chains[(1 : LineIndex)].length)
      ∧ plan.chains[(0 : LineIndex)] = [⟨0, 250, 1500⟩] ++ ⟨500, 0, 1500⟩ :: []
      ∧ (∀ g ∈ plan.chains[(0 : LineIndex)], g.start ≠ 499) := by decide +kernel

theorem test_witness_ActiveEntryIsLastReached :
    configured.rst.stroke.bind (fun r => r.chains) = none
      ∧ (stroking .held 0).rst.stroke.bind (fun r => r.chains) = some plan.chains
      ∧ (∀ g ∈ plan.chains[(1 : LineIndex)], 0 < g.start)
      ∧ plan.chains[(0 : LineIndex)] = [⟨0, 250, 1500⟩] ++ ⟨500, 0, 1500⟩ :: []
      ∧ plan.chains[(0 : LineIndex)] = [] ++ ⟨0, 250, 1500⟩ :: [⟨500, 0, 1500⟩]
      ∧ (∀ o ∈ [(⟨500, 0, 1500⟩ : GroutEntry)], 499 < o.start) := by decide +kernel

theorem test_witness_StrokeOpenOpensPlannedRing :
    configured.hears .advance = true ∧ configured.configured = true ∧ configured.rst.stroke = none
      ∧ configured.rst.plan = some plan ∧ plan.pieces.isSome = true ∧ plan.target.isSome = true ∧ plan.number ≤ 65534
      ∧ configured.bla.queue = [] := by decide +kernel

theorem test_witness_StrokeRequestsRefused :
    (stroking .held 0).hears .advance = true ∧ (stroking .held 0).configured = true
      ∧ (stroking .held 0).rst.plan = some { plan with number := 621 } ∧ (stroking .held 0).rst.stroke.isSome = true
      ∧ (stroking .draining 0).hears .advance = true ∧ (stroking .draining 0).stc.phase = .draining
      ∧ (stroking .ended 0).hears .advance = true ∧ (stroking .ended 0).stc.phase = .ended
      ∧ (next (exec .estopAssert configured)).hears .advance = true
      ∧ (next (exec .estopAssert configured)).pins.estop = true := by decide +kernel

theorem test_witness_StrokeEndMovesToDraining :
    let owing := withLine (partway .advancing) fun r => { r with state := .opened }
    let bare := stroking .held 0
    owing.hears .advance = true ∧ owing.configured = true ∧ owing.stc.phase.sliceOpen = true
      ∧ owing.finalSlice = some ⟨1, 0⟩ ∧ owing.drained = true
      ∧ (∀ r, owing.rst.stroke = some r → owing.settledWith owing.lineStates (owing.finalDebts r) = false)
      ∧ (partway .advancing).hears .advance = true ∧ (partway .advancing).finalSlice = some ⟨1, 0⟩
      ∧ (∀ r, (partway .advancing).rst.stroke = some r →
        (partway .advancing).settledWith (partway .advancing).lineStates ((partway .advancing).finalDebts r) = true)
      ∧ bare.hears .advance = true ∧ bare.finalSlice = none
      ∧ bare.settledWith bare.lineStates (bare.finalDebts ring) = true := by
  refine ⟨by decide +kernel, by decide +kernel, by decide +kernel, by decide +kernel, by decide +kernel, ?_,
    by decide +kernel, by decide +kernel, ?_, by decide +kernel, by decide +kernel, by decide +kernel⟩
  all_goals intro r h; injection h with h; subst h; decide +kernel

theorem test_witness_StrokeAbortEndsIncomplete :
    let owing := withLine (partway .held) fun r => { r with state := .opened }
    owing.hears .advance = true ∧ owing.configured = true ∧ owing.stc.phase.isOpen = true
      ∧ owing.rst.stroke.isSome = true ∧ owing.finalSlice = some ⟨1, 0⟩
      ∧ (owing.rst.stroke.map fun r => (owing.finalDebts r)[(0 : LineIndex)]) = some 125
      ∧ (stroking .held 0).hears .advance = true ∧ (stroking .held 0).finalSlice = none
      ∧ (stroking .draining 150).hears .advance = true ∧ (stroking .draining 150).stc.phase.isOpen = true
      ∧ (stroking .draining 150).rst.stroke = some ring ∧ (stroking .draining 150).finalSlice = none := by
  decide +kernel

/-- R41: the demand of the final slice is in the shortfalls: floor(502 × 250 / 1,000) of the void of 150 counts. -/
theorem test_abort_counts_final_demand :
    let owing := withLine (partway .held) fun r => { r with state := .opened }
    ((next (exec (.strokeAbort .advance []) owing)).rst.build.map fun b =>
        (b.result.shortfall[(0 : LineIndex)], b.flags.groutShort, b.flags.incompleteStroke))
      = some (125, true, true) := by decide +kernel

theorem test_witness_HoldAndResume :
    State.reset.hears .advance = true ∧ State.reset.configured = false ∧ (stroking .advancing 0).hears .advance = true
      ∧ (stroking .advancing 0).configured = true ∧ (stroking .advancing 0).pins.estop = false
      ∧ (next (exec (.hold .advance []) configured)).hold.masterHold = true
      ∧ (next (exec (.hold .advance []) configured)).hears .advance = true := by decide +kernel

theorem test_witness_EstopStopsAndReleases :
    let s := next (exec .estopAssert (stroking .advancing 0))
    (stroking .advancing 0).running = true ∧ (stroking .advancing 0).steady = true
      ∧ (stroking .advancing 0).pins.estop = false ∧ s.running = true ∧ s.steady = true ∧ s.pins.estop = true
      ∧ (s.stc.phase = .draining → s.drained = false)
      ∧ ∀ i : LineIndex, (s.grs[i].state = .probing → s.grs[i].window.elapsed < s.lim.g.probe)
        ∧ (s.grs[i].state = .blocked → s.grs[i].backoffTimer.elapsed < s.grs[i].backoff) := by decide +kernel

theorem test_witness_TravelStepMovesPosition :
    let below := { stroking .advancing 150 with stc := { (stroking .advancing 150).stc with position := 100 } }
    let high := { stroking .held 150 with stc := { (stroking .held 150).stc with position := 65535, highWater := 65535 } }
    configured.running = true ∧ configured.steady = true ∧ configured.stc.phase.isOpen = false
      ∧ below.running = true ∧ below.steady = true ∧ below.stepsForward true false = true
      ∧ below.stc.position < below.stc.highWater ∧ below.stepsBackward false true = true ∧ 0 < below.stc.position
      ∧ below.stc.rollbackArmed = true ∧ 50 < below.stc.highWater - (below.stc.position - 1)
      ∧ high.steady = true ∧ high.stepsBackward true false = false ∧ high.stc.position = 65535 := by decide +kernel

theorem test_witness_RiseRecomputesVolumes :
    (stroking .advancing 150).running = true ∧ (stroking .advancing 150).steady = true
      ∧ (stroking .advancing 150).stc.phase.isOpen = true ∧ (stroking .advancing 150).stepsForward true false = true
      ∧ (stroking .advancing 150).stc.position = (stroking .advancing 150).stc.highWater
      ∧ (stroking .advancing 150).rst.stroke = some ring ∧ 151 ≠ 1 * (geo.sliceLength * 10) ∧ 151 ≠ 600 * 10
      ∧ (∀ i, (stroking .advancing 150).entryAt i (151 / 10) = (stroking .advancing 150).entryAt i (150 / 10))
      ∧ ((stroking .advancing 150).stc.phase = .draining → (stroking .advancing 150).drained = false) := by
  decide +kernel

/-- The rise to 500 mm makes line 0's second entry active, under whose ceiling its pressure stands too high. -/
theorem test_witness_RiseRecomputesVolumes_moved :
    let s := withLine (stroking .advancing 4999) fun r =>
      { r with state := .opened, debt := 20, valve := true, pressure := some 1500, noPulse := ⟨.running, 5000⟩ }
    s.running = true ∧ s.steady = true ∧ s.stepsForward true false = true ∧ s.rst.stroke = some ring
      ∧ s.stc.slice = some ⟨1, 0⟩ ∧ 5000 ≠ 1 * (geo.sliceLength * 10) ∧ 5000 ≠ 600 * 10
      ∧ s.entryAt 0 (5000 / 10) ≠ s.entryAt 0 (4999 / 10) ∧ s.pressed 0 (s.entryAt 0 (5000 / 10)).ceiling = true
      ∧ s.grs[(0 : LineIndex)].noPulse.run = .running
      ∧ s.lim.g.block ≤ s.grs[(0 : LineIndex)].noPulse.elapsed := by decide +kernel

theorem test_witness_SliceClose : (stroking .advancing 199).reachesBoundary true false ⟨1, 0⟩ ring := by
  unfold State.reachesBoundary; decide +kernel

theorem test_witness_SliceDemandChargesLines :
    let s := withLine (stroking .advancing 199) fun r => { r with state := .opened }
    s.grs[(0 : LineIndex)].state ≠ .closed ∧ s.grs[(1 : LineIndex)].state = .closed := by decide +kernel

theorem test_witness_TargetEndsTheAdvance :
    let s := withLine (stroking .advancing 5999) fun r => { r with state := .opened, debt := 20 }
    s.running = true ∧ s.steady = true ∧ s.stc.phase.sliceOpen = true ∧ s.stepsForward true false = true
      ∧ s.stc.position = s.stc.highWater ∧ s.rst.stroke = some ring ∧ ring.endAtTarget = true ∧ ring.target = some 600
      ∧ s.stc.highWater + 1 = 600 * 10 ∧ s.stc.slice = some ⟨1, 0⟩ ∧ (⟨1, 0⟩ : OpenSlice).start ≤ s.stc.highWater
      ∧ s.settledWith s.lineStates (s.chargedDebts ⟨1, 0⟩ (voidOf s.geo 6000 - s.bal.snapshot.void)) = false
      ∧ 600 * 10 ≠ 1 * (geo.sliceLength * 10) := by decide +kernel

/-- The same with no line but CLOSED ones, nothing owed at the target, and the slice ending there. -/
theorem test_witness_TargetEndsTheAdvance_drained :
    let s := { stroking .advancing 5999 with
      stc := { (stroking .advancing 5999).stc with slice := some ⟨30, 5800⟩ } }
    s.steady = true ∧ s.stepsForward true false = true ∧ s.stc.slice = some ⟨30, 5800⟩
      ∧ (⟨30, 5800⟩ : OpenSlice).start ≤ s.stc.highWater ∧ 600 * 10 = 30 * (geo.sliceLength * 10)
      ∧ s.settledWith s.lineStates (s.chargedDebts ⟨30, 5800⟩ (voidOf s.geo 6000 - s.bal.snapshot.void)) = true := by
  decide +kernel

theorem test_witness_DrainingStrokeEnds :
    let s := stroking .draining 150
    let u := { s with stc := { s.stc with drainTimer := ⟨.running, 120000⟩ } }
    s.running = true ∧ s.steady = true ∧ s.rst.stroke = some ring ∧ s.stc.phase = .draining ∧ s.drained = true
      ∧ s.stc.drainTimer.run ≠ .running ∧ u.stc.drainTimer.run = .running ∧ u.lim.g.drain ≤ u.stc.drainTimer.elapsed
      ∧ (stroking .ended 0).steady = true ∧ (stroking .ended 0).stc.phase = .ended ∧ (stroking .ended 0).rst.build = none := by
  decide +kernel

theorem test_witness_ShoeResetEntersExtending :
    let s := withShoe configured fun r => { r with state := .fault, reason := some .moveTimeout }
    s.hears .advance = true ∧ s.configured = true ∧ s.sht[(0 : ShoeIndex)].state = .fault
      ∧ s.sht[(0 : ShoeIndex)].owner = none ∧ s.sht[(15 : ShoeIndex)].state ≠ .fault := by decide +kernel

theorem test_witness_ShoeInputsAndTimersMoveTheShoe :
    let s := withShoe configured fun r => { r with state := .retracting, timer := ⟨.running, 30000⟩ }
    configured.running = true ∧ configured.steady = true ∧ s.running = true ∧ s.steady = true
      ∧ s.sht[(0 : ShoeIndex)].timer.run = .running ∧ s.sht[(0 : ShoeIndex)].state = .retracting
      ∧ s.lim.a.retract ≤ s.sht[(0 : ShoeIndex)].timer.elapsed := by decide +kernel

/-- A shoe of a CLEAR claim whose seated input asserts against its limit, and one of a RETRACTING claim that times out. -/
theorem test_witness_ShoeInputsAndTimersMoveTheShoe_owned :
    let s := shoesOfClaim1 (claiming [claim1 .retracting]) .clear .retracting false
    let u := { withShoe s fun r => { r with timer := ⟨.running, 30000⟩ } with
      pins := { s.pins with retracted := s.pins.retracted.set 1 true } }
    u.running = true ∧ u.steady = true ∧ u.pins.seated[(1 : ShoeIndex)] = false ∧ u.pins.retracted[(1 : ShoeIndex)] = true
      ∧ u.sht[(1 : ShoeIndex)].owner = some (claim1 .retracting).id ∧ claim1 .retracting ∈ u.bla.queue
      ∧ (u.bla.queue.map fun d => d.id).Nodup ∧ (claim1 .retracting).state ≠ .waiting
      ∧ (claim1 .retracting).state ≠ .returning ∧ u.sht[(0 : ShoeIndex)].state = .retracting
      ∧ u.lim.a.retract ≤ u.sht[(0 : ShoeIndex)].timer.elapsed := by decide +kernel

theorem test_witness_ClaimAndWithdrawAreQueued :
    (claiming []).hears .erector = true ∧ (claiming []).configured = true ∧ (claiming []).rst.build = some built
      ∧ built.pieces = plan.pieces ∧ (claiming []).claimsFollow = true ∧ (claiming []).balanceKept = true
      ∧ configured.hears .erector = true ∧ configured.rst.build = none := by decide +kernel

theorem test_witness_GrantRetractsTheShoes :
    (claiming [claim1 .waiting]).running = true ∧ (claiming [claim1 .waiting]).steady = true
      ∧ (claiming [claim1 .waiting]).balanceKept = true
      ∧ (claiming [claim1 .waiting]).bla.queue = [] ++ claim1 .waiting :: []
      ∧ ((claiming [claim1 .waiting]).bla.queue.map fun d => d.id).Nodup ∧ (claim1 .waiting).state = .waiting := by
  decide +kernel

/-- The last shoe of a RETRACTING claim, and a first one, that have still to reach CLEAR. -/
theorem test_witness_GrantRetractsTheShoes_clear :
    let s := shoesOfClaim1 (claiming [claim1 .retracting]) .clear .retracting false
    let u := shoesOfClaim1 (claiming [claim1 .retracting]) .retracting .retracting false
    s.running = true ∧ s.steady = true ∧ s.pins.retracted[(0 : ShoeIndex)] = false
      ∧ s.pins.seated[(0 : ShoeIndex)] = false ∧ s.sht[(0 : ShoeIndex)].state = .retracting
      ∧ claim1 .retracting ∈ s.bla.queue ∧ (0 : ShoeIndex) ∈ (claim1 .retracting).shoes
      ∧ (s.bla.queue.map fun d => d.id).Nodup
      ∧ (∀ j ∈ (claim1 .retracting).shoes, j ≠ 0 → s.sht[j].state = .clear)
      ∧ u.steady = true ∧ u.sht[(0 : ShoeIndex)].state = .retracting ∧ u.sht[(1 : ShoeIndex)].state ≠ .clear := by
  decide +kernel

theorem test_witness_ClaimDoneClampsTheShoes :
    let s := shoesOfClaim1 (claiming [claim1 .clear]) .clear .clear false
    s.hears .erector = true ∧ s.configured = true ∧ s.claimsFollow = true ∧ s.balanceKept = true ∧ s.nothingWaits = true
      ∧ (s.bla.queue.map fun d => d.id).Nodup ∧ claim1 .clear ∈ s.bla.queue ∧ (claim1 .clear).id.val = 0
      ∧ ∀ i ∈ (claim1 .clear).shoes, s.sht[i].state = .clear ∧ s.pins.seated[i] = false := by decide +kernel

theorem test_witness_LastShoeSeatsCompletesClaim :
    let s := shoesOfClaim1 (claiming [claim1 .clamping]) .bearing .extending true
    s.running = true ∧ s.steady = true ∧ s.pins.seated[(0 : ShoeIndex)] = false
      ∧ s.pins.retracted[(0 : ShoeIndex)] = false ∧ s.sht[(0 : ShoeIndex)].state = .extending
      ∧ claim1 .clamping ∈ s.bla.queue ∧ (0 : ShoeIndex) ∈ (claim1 .clamping).shoes
      ∧ (∀ j ∈ (claim1 .clamping).shoes, j ≠ 0 → s.sht[j].state = .bearing) ∧ s.rst.build = some built
      ∧ (s.bla.queue.map fun d => d.id).Nodup ∧ s.nothingWaits = true
      ∧ (∀ d ∈ s.bla.queue, d.id ≠ (claim1 .clamping).id → (0 : ShoeIndex) ∉ d.shoes) ∧ s.claimsFollow = true := by
  decide +kernel

theorem test_witness_CancelGivesUpTheClaim :
    let w := claiming [claim1 .waiting]
    let s := shoesOfClaim1 (claiming [claim1 .clear]) .clear .clear false
    let u := shoesOfClaim1 (claiming [claim1 .clamping]) .extending .extending false
    w.hears .erector = true ∧ w.claimsFollow = true ∧ w.balanceKept = true
      ∧ (∀ i : ShoeIndex, w.sht[i].owner ≠ some (claim1 .waiting).id) ∧ built.complete = false
      ∧ s.hears .erector = true ∧ s.claimsFollow = true ∧ s.balanceKept = true
      ∧ (∀ i ∈ (claim1 .clear).shoes, s.pins.seated[i] = false) ∧ s.sht[(0 : ShoeIndex)].state = .clear
      ∧ u.hears .erector = true ∧ u.claimsFollow = true ∧ u.balanceKept = true := by decide +kernel

/-- A RETURNING claim whose last shoe has still to seat or to fault, another of them in FAULT. -/
theorem test_witness_CancelGivesUpTheClaim_returned :
    let s := shoesOfClaim1 (claiming [claim1 .returning]) .bearing .extending true
    let u := withShoe { s with sht := s.sht.set 1 { s.sht[1] with state := .fault } } fun r =>
      { r with timer := ⟨.running, 30000⟩ }
    u.running = true ∧ u.steady = true ∧ u.sht[(0 : ShoeIndex)].state = .extending
      ∧ claim1 .returning ∈ u.bla.queue ∧ (0 : ShoeIndex) ∈ (claim1 .returning).shoes
      ∧ (u.bla.queue.map fun d => d.id).Nodup
      ∧ (∀ j ∈ (claim1 .returning).shoes, j ≠ 0 → u.sht[j].state = .bearing ∨ u.sht[j].state = .fault)
      ∧ u.pins.seated[(0 : ShoeIndex)] = false ∧ u.pins.retracted[(0 : ShoeIndex)] = false
      ∧ u.lim.a.extend ≤ u.sht[(0 : ShoeIndex)].timer.elapsed := by decide +kernel

theorem test_witness_PulsesAndFace :
    (stroking .held 5).running = true ∧ (stroking .held 5).steady = true ∧ configured.running = true
      ∧ configured.steady = true ∧ (stroking .held 5).hears .spoil = true ∧ (stroking .held 5).rst.stroke ≠ none
      ∧ State.reset.hears .spoil = true ∧ State.reset.bandInForce = none
      ∧ (stroking .held 5).bandInForce = some (plan.face, .stroke, 620) := by decide +kernel

theorem test_witness_TrainsComeAndGo :
    let s := { State.reset with spm := { State.reset.spm with loading := some ⟨7, 10000, none, none, 0, false⟩ } }
    State.reset.hears .spoil = true ∧ State.reset.spm.loading = none ∧ s.hears .spoil = true
      ∧ s.spm.loading = some ⟨7, 10000, none, none, 0, false⟩ := by decide +kernel

/-- The ends of the ranges of TRAIN_IN: 10,000 and 2,000,000 dL and number 255 are taken, one beyond each is not. -/
theorem test_train_in_boundaries :
    let result (number capacity : Nat) :=
      (next (exec (.trainIn .spoil (num2 number ++ num4 capacity)) State.reset)).lif.spoil.last.map Response.result
    result 255 10000 = some .ok ∧ result 255 2000000 = some .ok ∧ result 255 9999 = some .badValue
      ∧ result 255 2000001 = some .badValue ∧ result 256 10000 = some .badValue := by decide +kernel

theorem test_witness_PumpPulseIsCountedOrDead :
    let s := withLine (stroking .advancing 5) fun r => { r with state := .opened, debt := 20, valve := true }
    s.running = true ∧ s.steady = true ∧ s.grs[(0 : LineIndex)].valve = true ∧ s.stc.phase.sliceOpen = true
      ∧ s.grs[(1 : LineIndex)].valve = false := by decide +kernel

/-- In DRAINING the pulse that pays the last debt, the clearing and the failure of the last line that owes, and each where
another line still owes. -/
theorem test_witness_LinesWhileDraining :
    let s := stroking .draining 150
    let p := withLine s fun r => { r with state := .opened, debt := 20, valve := true }
    let c := withLine s fun r => { r with state := .failed, debt := 20 }
    let w := withLine s fun r => { r with state := .probing, debt := 20, window := ⟨.running, 3000⟩, probes := 4 }
    let owes (x : State) := { x with grs := x.grs.set 1 { x.grs[1] with state := .blocked, debt := 20 } }
    p.running = true ∧ p.steady = true ∧ p.stc.phase.isOpen = true ∧ p.rst.stroke = some ring ∧ p.drained = false
      ∧ p.settledWith (p.lineStates.set 0 .opened) (p.lineDebts.set 0 0) = true
      ∧ (owes p).settledWith ((owes p).lineStates.set 0 .opened) ((owes p).lineDebts.set 0 0) = false
      ∧ c.hears .grout = true ∧ c.settledWith (c.lineStates.set 0 .opened) c.lineDebts = false
      ∧ (withLine c fun r => { r with debt := 19 }).settledWith (c.lineStates.set 0 .opened) (c.lineDebts.set 0 19) = true
      ∧ w.running = true ∧ w.steady = true ∧ w.drained = false ∧ w.windowDue 0 = true
      ∧ w.settledWith (w.lineStates.set 0 .failed) w.lineDebts = true
      ∧ (owes w).windowDue 0 = true
      ∧ (owes w).settledWith ((owes w).lineStates.set 0 .failed) (owes w).lineDebts = false := by decide +kernel

theorem test_witness_LinePressureStoresAndBlocks :
    let s := withLine (stroking .advancing 5) fun r =>
      { r with state := .opened, debt := 20, valve := true, noPulse := ⟨.running, 5000⟩ }
    let d := withLine (stroking .draining 5) fun r => { r with state := .blocked, debt := 20 }
    s.hears .grout = true ∧ s.configured = true ∧ s.stc.phase ≠ .draining
      ∧ d.hears .grout = true ∧ d.configured = true ∧ d.stc.phase = .draining ∧ d.drained = false
      ∧ ([(0, 1500)].map Prod.fst).Nodup ∧ (∀ p ∈ [(0, 1500)], p.1 < 6 ∧ p.2 < 65536)
      ∧ ¬ ([(5, 0), (5, 0)].map Prod.fst).Nodup ∧ ¬ (∀ p ∈ [(6, 0)], p.1 < 6)
      ∧ s.lineCeiling 0 ≤ min 1500 2000 ∧ s.lim.g.block ≤ s.grs[(0 : LineIndex)].noPulse.elapsed := by decide +kernel

theorem test_witness_LineClearRestoresLine :
    let s := withLine (stroking .advancing 5) fun r => { r with state := .failed, debt := 20 }
    s.hears .grout = true ∧ s.configured = true ∧ s.stc.phase ≠ .draining ∧ s.grs[(0 : LineIndex)].state = .failed
      ∧ s.grs[(5 : LineIndex)].state ≠ .failed := by decide +kernel

theorem test_witness_LineTimersExpire :
    let s := withLine (stroking .advancing 5) fun r =>
      { r with state := .opened, debt := 20, valve := true, pressure := some 1500, noPulse := ⟨.running, 5000⟩ }
    let b := withLine (stroking .advancing 5) fun r => { r with state := .blocked, backoffTimer := ⟨.running, 4000⟩ }
    let w := withLine (stroking .advancing 5) fun r => { r with state := .probing, window := ⟨.running, 3000⟩, probes := 4 }
    s.running = true ∧ s.steady = true ∧ s.stc.phase ≠ .draining ∧ s.lineBlocks 0 = true ∧ b.steady = true
      ∧ b.backoffDue 0 = true ∧ w.steady = true ∧ w.windowDue 0 = true := by decide +kernel

theorem test_witness_SilenceChecksThenLapse :
    let s := withSilence configured .erector ⟨true, .watching, 0, ⟨.running, 1000⟩, Timer.rest⟩
    let u := withSilence configured .erector ⟨true, .checking, 3, Timer.rest, ⟨.running, 1000⟩⟩
    s.running = true ∧ s.steady = true ∧ s.silentLimit .erector ≤ (s.lif.get .erector).silence.silenceTimer.elapsed
      ∧ u.running = true ∧ u.steady = true ∧ (u.lif.get .erector).silence.phase = .checking
      ∧ 1000 ≤ (u.lif.get .erector).silence.checkTimer.elapsed ∧ ¬ (u.lif.get .erector).silence.checks < 3
      ∧ u.claimsFollow = true ∧ u.balanceKept = true ∧ (u.bla.queue.map fun d => d.id).Nodup := by decide +kernel

/-! ### The laws hold of a state that steps -/

/-- The reset part with a command waiting steps to a next state. -/
theorem test_witness_laws_step : ∃ t, step { State.reset with pending := [.screwPulse] } = .next t := ⟨_, rfl⟩

theorem test_witness_NoticeLawKept : State.reset.noticeLaw := by intro l; cases l <;> decide +kernel

theorem test_witness_GovernorLawKept : State.reset.governorLaw := by unfold State.governorLaw; decide +kernel

theorem test_witness_OutputLawKept : State.reset.outputLaw := by
  refine ⟨?_, ?_, ?_⟩
  · unfold State.permitLaw; decide +kernel
  · intro i; revert i; decide +kernel
  · exact ⟨by decide +kernel, ⟨fun h => absurd h (by decide +kernel), fun ⟨t, n, h, _⟩ => (by cases h)⟩⟩

/-- A state that meets the law with the permit asserted: advancing, a train one pulse short of full under the conveyor. -/
theorem test_witness_OutputLawKept_permit : loaded.outputLaw ∧ loaded.running = true ∧ loaded.permit = true := by
  refine ⟨⟨?_, ?_, ?_⟩, by decide +kernel, by decide +kernel⟩
  · unfold State.permitLaw; decide +kernel
  · intro i; revert i; decide +kernel
  · refine ⟨⟨fun h => absurd h (by decide +kernel), fun h => (by cases h)⟩, fun h => absurd h (by decide +kernel), ?_⟩
    rintro ⟨t, n, h, hn, hle⟩
    cases h; cases hn
    exact absurd hle (by decide +kernel)

theorem test_witness_LinkLawKept : State.reset.linkLaw := by
  intro l
  refine ⟨by cases l <;> decide +kernel, fun c h => ?_⟩
  cases l <;> simp [lapseCause] at h <;> subst h <;> decide +kernel

theorem test_witness_StoreLawKept : State.reset.storeLaw := by
  refine ⟨⟨by decide +kernel, by decide +kernel, by decide +kernel, ?_, ?_, by decide +kernel⟩, ?_⟩
  · intro p h; cases h
  · intro r h; cases h
  · exact ⟨List.isChain_nil, by decide +kernel, by decide +kernel⟩

theorem test_witness_BuildLawKept : State.reset.buildLaw := by
  refine ⟨?_, by decide +kernel, ?_, ?_, ?_⟩
  · unfold State.queueLaw; decide +kernel
  · intro i; revert i; decide +kernel
  · exact ⟨by decide +kernel, fun p h => (by cases h), fun r h => (by cases h), fun b h => (by cases h)⟩
  · intro b h; cases h

theorem test_witness_RecordLawKept : State.reset.recordLaw := by
  refine ⟨⟨by decide +kernel, by decide +kernel, fun r h => (by cases h)⟩, fun r h => (by cases h), fun b h => (by cases h),
    fun b h => (by cases h)⟩

end Sys2Proof.Tests
end

section
/-! What a request comes to that a link hears and that writes nothing but the ring store. -/

namespace Sys2Proof.Machine

/-- The event in which a link is heard: begun, with the silence sequence of the link at its start again. -/
def Ev.heard (s : State) (l : Link) : Ev := (Ev.begin s).modSilence l Silence.spoken

@[simp] theorem Ev.heard_configured (s : State) (l : Link) : (Ev.heard s l).configured = s.configured := rfl

theorem State.hears_iff {s : State} {l : Link} :
    s.hears l = true ↔ s.receives l = true ∧ (s.lif.get l).silence.lapsed = false
      ∧ s.stc.phase.follow s.hold = s.stc.phase := by
  simp [State.hears, State.steady, and_assoc]

/-- A link that is heard has the state steps 3 to 6 of R153 are taken in. -/
theorem Ev.validFrame_of_hears {s : State} {l : Link} (h : s.hears l = true) :
    (Ev.begin s).validFrame l = Ev.heard s l :=
  Ev.validFrame_of_not_lapsed (State.hears_iff.1 h).2.1

/-- The summary reads nothing of the interfaces but whether its own link is in lapse. -/
theorem State.summary_respond (s : State) (l : Link) (frame : List Byte) (r : Reply) :
    (s.respond l frame r).summary l = s.summary l := by
  obtain ⟨hstate, -, hsilence, -⟩ := s.respond_spec l frame r
  have hsame : ∀ x : PerLink LinkInterface, (x.get l).silence = (s.lif.get l).silence →
      ({ s with lif := x } : State).summary l = s.summary l := by
    intro x hx
    simp only [State.summary, hx]
    rfl
  rw [hstate]
  exact hsame _ hsilence

/-- The response stands on the link, with the summary of the state it was formed in and left. -/
theorem State.answered_respond (s : State) (l : Link) (frame : List Byte) (r : Reply) :
    (s.respond l frame r).answered l r := by
  rw [State.answered, State.summary_respond]
  exact (s.respond_spec l frame r).2.2.2

/-- The end of an event that has written the ring store alone. -/
theorem Ev.heard_store_close {s : State} {l : Link} (h : s.hears l = true) (store : RingStore) :
    ((Ev.heard s l).modRst fun _ => store).close = { s with rst := store, lif := (Ev.heard s l).lif } := by
  have hsteady : s.stc.phase.follow s.hold = s.stc.phase := (State.hears_iff.1 h).2.2
  simp [Ev.close_eq, Ev.heard, Ev.modSilence_modLif, Ev.modLif, Ev.modRst, Ev.begin, hsteady]

/-- A frame that can be one and that its link hears has a next state. -/
theorem request_next (q : Request) (body : List Byte) (own : Ev → Ev × Reply) {l : Link} {s : State}
    (hears : s.hears l = true) (hfits : bodyFits body = true) : ∃ t, request q l body own s = .next t :=
  ⟨_, request_heard hfits (State.hears_iff.1 hears).1⟩

section Heard

variable {q : Request} {l : Link} {body : List Byte} {own : Ev → Ev × Reply} {s t : State}

/-- An owner that leaves this store and answers this: the store stands, the link has been heard and answered, and nothing
else has moved. -/
theorem request_leaves_store {store : RingStore} {r : Reply} (hnext : request q l body own s = .next t)
    (hears : s.hears l = true) (hconf : s.configured = true) (hrole : q.allowedOn l = true)
    (hlen : q.lengthOK l body.length = true)
    (hown : own (Ev.heard s l) = ((Ev.heard s l).modRst fun _ => store, r)) :
    t = { s with rst := store, lif := t.lif } ∧ s.heardOn t l ∧ t.answered l r := by
  have hfits : bodyFits body = true := by
    by_contra h
    rw [request_illFormed (by simpa using h)] at hnext
    cases hnext
  have hjudge : (Ev.heard s l).judgeRequest q l body own = own (Ev.heard s l) := by
    simp [Ev.judgeRequest, hrole, hconf, hlen]
  have hframed : s.framed l (frameOf q.code body) (fun e => e.judgeRequest q l body own)
      = ({ s with rst := store, lif := (Ev.heard s l).lif } : State).respond l (frameOf q.code body) r := by
    simp only [State.framed, Ev.validFrame_of_hears hears, hjudge, hown, Ev.heard_store_close hears]
  rw [request_heard hfits (State.hears_iff.1 hears).1, hframed] at hnext
  obtain rfl := Host.Outcome.next.inj hnext
  obtain ⟨hstate, hothers, hsilence, -⟩ :=
    ({ s with rst := store, lif := (Ev.heard s l).lif } : State).respond_spec l (frameOf q.code body) r
  refine ⟨hstate, ⟨fun m hm => ?_, ?_⟩, State.answered_respond _ _ _ _⟩
  · rw [hothers m hm]
    exact PerLink.get_set_of_ne _ _ hm
  · rw [hsilence]
    simp [Ev.heard, Ev.modSilence_lif]

/-- An owner that refuses: the refusal is answered and nothing has changed. -/
theorem request_refuses {r : Result} (hnext : request q l body own s = .next t) (hears : s.hears l = true)
    (hconf : s.configured = true) (hrole : q.allowedOn l = true) (hlen : q.lengthOK l body.length = true)
    (hown : own (Ev.heard s l) = (Ev.heard s l, .refuse r)) : s.refusedWith t l r := by
  obtain ⟨hstate, hheard, hanswer⟩ := request_leaves_store (store := s.rst) hnext hears hconf hrole hlen hown
  exact ⟨⟨hstate, hheard⟩, hanswer⟩

end Heard

/-- A plan write in a part with a PLAN record is judged against that record (R7). -/
theorem Ev.planWrite_of_plan {e : Ev} {p : PlanRing} (h : e.rst.plan = some p) (write : PlanRing → Ev × Reply) :
    e.planWrite write = write p := by
  simp [Ev.planWrite, h]

/-- A write of the PLAN record is a write of the store with that record in it. -/
theorem Ev.modPlanRing_of_plan {e : Ev} {p : PlanRing} (h : e.rst.plan = some p) (f : PlanRing → PlanRing) :
    e.modPlanRing f = e.modRst fun _ => { e.rst with plan := some (f p) } := by
  simp [Ev.modPlanRing, Ev.modRst, h]

end Sys2Proof.Machine
end

section
/-! PLAN_GROUT_DROP and PLAN_GROUT_CLEAR (R14, R15): what their owners do in each case, and what unlinking an entry leaves
of a chain and of the ring's count. -/

namespace Sys2Proof.Machine

/-! ## Chains and their count -/

theorem chainCount_eq_sum (v : Chains) : chainCount v = ∑ i : LineIndex, v[i].length := by
  rw [chainCount, sumAll, mapAll, Vector.toList_ofFn, List.sum_ofFn]

/-- With one chain replaced, the count differs by the difference of that chain's lengths. -/
theorem chainCount_set (v : Chains) (i : LineIndex) (chain : List GroutEntry) :
    chainCount (v.set i.val chain i.isLt) + v[i].length = chainCount v + chain.length := by
  have hothers : ∑ j ∈ Finset.univ.erase i, (v.set i.val chain i.isLt)[j].length
      = ∑ j ∈ Finset.univ.erase i, v[j].length := by
    refine Finset.sum_congr rfl fun j hj => ?_
    have hne : i.val ≠ j.val := fun h => (Finset.mem_erase.1 hj).1 (Fin.ext h.symm)
    simp [hne]
  have hself : (v.set i.val chain i.isLt)[i] = chain := by simp
  rw [chainCount_eq_sum, chainCount_eq_sum, ← Finset.add_sum_erase _ _ (Finset.mem_univ i),
    ← Finset.add_sum_erase Finset.univ (fun j : LineIndex => v[j].length) (Finset.mem_univ i), hothers, hself]
  omega

/-- Unlinking one entry of a chain takes one from the ring's count. -/
theorem chainCount_set_unlinked {v : Chains} {i : LineIndex} {before after : List GroutEntry} {g : GroutEntry}
    (h : v[i] = before ++ g :: after) :
    chainCount (v.set i.val (before ++ after) i.isLt) = chainCount v - 1 := by
  have hset := chainCount_set v i (before ++ after)
  rw [h] at hset
  simp only [List.length_append, List.length_cons] at hset
  omega

theorem chainHas_eq_false {chain : List GroutEntry} {start : Nat} :
    chainHas chain start = false ↔ ∀ g ∈ chain, g.start ≠ start := by
  simp [chainHas]

/-- In an ascending chain the entry unlinked is the one with that `from`, and the others keep their order. -/
theorem dropEntry_of_pairwise {before after : List GroutEntry} {g : GroutEntry}
    (h : (before ++ g :: after).Pairwise fun a b => a.start < b.start) :
    dropEntry (before ++ g :: after) g.start = before ++ after := by
  have hbefore : ∀ x ∈ before, ¬ (decide (x.start = g.start) = true) := by
    intro x hx
    have := (List.pairwise_append.1 h).2.2 x hx g List.mem_cons_self
    simp only [decide_eq_true_eq]
    omega
  rw [dropEntry, List.eraseP_append_right _ hbefore, List.eraseP_cons_of_pos (by simp)]

/-! ## The writes -/

/-- The store with one chain of the PLAN record `p` replaced, its grout part GIVEN, and this many free entries (R12). -/
def RingStore.withChain (r : RingStore) (p : PlanRing) (i : LineIndex) (chain : List GroutEntry) (free : Nat) :
    RingStore :=
  { r with
    plan := some { p with chains := p.chains.set i.val chain i.isLt, marks := { p.marks with grout := .given } },
    free := free }

theorem Ev.writeChain_of_plan {e : Ev} {p : PlanRing} (h : e.rst.plan = some p) (i : LineIndex)
    (chain : List GroutEntry) (free : Nat) :
    e.writeChain i chain free = e.modRst fun _ => e.rst.withChain p i chain free := by
  rw [Ev.writeChain, Ev.modPlanRing_of_plan h]
  rfl

theorem Ev.chainCounts_withChain (e : Ev) (p : PlanRing) (i : LineIndex) (chain : List GroutEntry) (free : Nat) :
    (e.modRst fun _ => e.rst.withChain p i chain free).chainCounts i
      = num2 chain.length ++ num2 (chainCount (p.chains.set i.val chain i.isLt)) := by
  simp [Ev.chainCounts, RingStore.withChain]

/-! ## What the owners do -/

theorem exec_planGroutDrop (l : Link) (body : List Byte) (s : State) :
    exec (.planGroutDrop l body) s = request .planGroutDrop l body (fun e => e.planGroutDrop body) s := rfl

theorem exec_planGroutClear (l : Link) (body : List Byte) (s : State) :
    exec (.planGroutClear l body) s = request .planGroutClear l body (fun e => e.planGroutClear body) s := rfl

section Owners

variable {e : Ev} {p : PlanRing} {line : Byte} {start : Nat} {i : LineIndex}

theorem lineAt_cons_of_ge (body : List Byte) (h : 6 ≤ line.toNat) : lineAt (line :: body) 0 = none :=
  lineAt_eq_none.2 (by rwa [fieldAt_cons_zero])

theorem lineAt_cons_of_eq (body : List Byte) (h : i.val = line.toNat) : lineAt (line :: body) 0 = some i :=
  lineAt_eq_some.2 (by rwa [fieldAt_cons_zero])

/-- The `from` a PLAN_GROUT_DROP names, behind its line (R14). -/
theorem fieldAt_drop_start (line : Byte) (h : start < 65536) : fieldAt ([line] ++ num2 start) 1 2 = start :=
  (fieldAt_append_right (by simp)).trans (fieldAt_num2 h)

theorem Ev.planGroutDrop_bad_line (hp : e.rst.plan = some p) (hline : 6 ≤ line.toNat) :
    e.planGroutDrop ([line] ++ num2 start) = (e, .refuse .badValue) := by
  simp only [Ev.planGroutDrop, Ev.planWrite_of_plan hp, List.cons_append, lineAt_cons_of_ge _ hline]

theorem Ev.planGroutDrop_absent (hp : e.rst.plan = some p) (hi : i.val = line.toNat) (hstart : start < 65536)
    (habsent : ∀ g ∈ p.chains[i], g.start ≠ start) :
    e.planGroutDrop ([line] ++ num2 start) = (e, .refuse .badValue) := by
  simp only [Ev.planGroutDrop, Ev.planWrite_of_plan hp, fieldAt_drop_start line hstart]
  simp only [List.cons_append, lineAt_cons_of_eq _ hi, chainHas_eq_false.2 habsent, Bool.false_eq_true, if_false]

/-- The drop of an entry that the chain holds: the others stay, and one entry returns to the pool (R14). -/
theorem Ev.planGroutDrop_unlinks {before after : List GroutEntry} {g : GroutEntry} (hp : e.rst.plan = some p)
    (hlaw : chainsLawful p.chains) (hi : i.val = line.toNat) (hstart : g.start < 65536)
    (hchain : p.chains[i] = before ++ g :: after) :
    e.planGroutDrop ([line] ++ num2 g.start)
      = (e.modRst fun _ => e.rst.withChain p i (before ++ after) (e.rst.free + 1),
          ⟨.ok, num2 (before ++ after).length ++ num2 (chainCount p.chains - 1)⟩) := by
  have hhas : chainHas (before ++ g :: after) g.start = true := by simp [chainHas]
  have hdrop : dropEntry (before ++ g :: after) g.start = before ++ after :=
    dropEntry_of_pairwise (hchain ▸ (hlaw i).2)
  simp only [Ev.planGroutDrop, Ev.planWrite_of_plan hp, fieldAt_drop_start line hstart]
  simp only [List.cons_append, lineAt_cons_of_eq _ hi, hchain, hhas, if_true, hdrop, Ev.writeChain_of_plan hp,
    Ev.chainCounts_withChain, chainCount_set_unlinked hchain]

theorem Ev.planGroutClear_bad_line (hp : e.rst.plan = some p) (hline : 6 ≤ line.toNat) :
    e.planGroutClear [line] = (e, .refuse .badValue) := by
  simp only [Ev.planGroutClear, Ev.planWrite_of_plan hp, lineAt_cons_of_ge _ hline]

/-- The clear empties the chain, and as many entries as it held return to the pool (R15). -/
theorem Ev.planGroutClear_empties (hp : e.rst.plan = some p) (hi : i.val = line.toNat) :
    e.planGroutClear [line]
      = (e.modRst fun _ => e.rst.withChain p i [] (e.rst.free + p.chains[i].length), .ok) := by
  simp only [Ev.planGroutClear, Ev.planWrite_of_plan hp, lineAt_cons_of_eq _ hi, Ev.writeChain_of_plan hp]

end Owners

/-- Settles O21: the drop unlinks the one entry of an ascending chain, the clear empties the chain whatever it holds, and
each gives back to the pool what the chain lost. -/
theorem planGroutDropAndClear : Obligations.PlanGroutDropAndClear := by
  intro s line start p hears hconf hp hlaw hstart
  have hplan : (Ev.heard s .grout).rst.plan = some p := hp
  rw [exec_planGroutDrop, exec_planGroutClear]
  obtain ⟨t, ht⟩ := request_next .planGroutDrop ([line] ++ num2 start)
    (fun e => e.planGroutDrop ([line] ++ num2 start)) hears rfl
  obtain ⟨u, hu⟩ := request_next .planGroutClear [line] (fun e => e.planGroutClear [line]) hears rfl
  refine ⟨⟨t, ht, fun hline => ?_, fun i hi => ⟨fun habsent => ?_, fun before after g hchain hg => ?_⟩⟩,
    u, hu, fun hline => ?_, fun i hi => ?_⟩
  · exact request_refuses ht hears hconf rfl rfl (Ev.planGroutDrop_bad_line hplan hline)
  · exact request_refuses ht hears hconf rfl rfl (Ev.planGroutDrop_absent hplan hi hstart habsent)
  · subst hg
    exact request_leaves_store ht hears hconf rfl rfl (Ev.planGroutDrop_unlinks hplan hlaw hi hstart hchain)
  · exact request_refuses hu hears hconf rfl rfl (Ev.planGroutClear_bad_line hplan hline)
  · exact request_leaves_store hu hears hconf rfl rfl (Ev.planGroutClear_empties hplan hi)

end Sys2Proof.Machine
end

section
/-! PLAN_PIECES (R8): what its body reads back as, when its entries tile the sixteen shoes, and what its owner does. -/

namespace Sys2Proof.Machine

/-! ## The body -/

/-- The six bytes of a piece entry: number, first shoe, span (R8). -/
def RawPiece.bytes (r : RawPiece) : List Byte := num2 r.number ++ num2 r.first ++ num2 r.span

/-- The values of a piece entry each fit two bytes. -/
def RawPiece.fits (r : RawPiece) : Prop := r.number < 65536 ∧ r.first < 65536 ∧ r.span < 65536

@[simp] theorem RawPiece.bytes_length (r : RawPiece) : r.bytes.length = 6 := rfl

/-- A piece entry reads back from its bytes. -/
theorem RawPiece.read_bytes {r : RawPiece} (h : r.fits) :
    (⟨fieldAt r.bytes 0 2, fieldAt r.bytes 2 2, fieldAt r.bytes 4 2⟩ : RawPiece) = r := by
  obtain ⟨hnumber, hfirst, hspan⟩ := h
  have h0 : fieldAt r.bytes 0 2 = r.number := fieldAt_num2 hnumber
  have h2 : fieldAt r.bytes 2 2 = r.first := fieldAt_num2 hfirst
  have h4 : fieldAt r.bytes 4 2 = r.span := fieldAt_num2 hspan
  rw [h0, h2, h4]

/-- N and the piece entries read back from the body that carries them (R8). -/
theorem piecesBody_bytes {n : Nat} {raw : List RawPiece} (hn : n < 65536) (hraw : ∀ r ∈ raw, r.fits) :
    piecesBody (num2 n ++ raw.flatMap RawPiece.bytes) = (n, raw) := by
  have hcount : ((num2 n ++ raw.flatMap RawPiece.bytes).length - 2) / 6 = raw.length := by
    simp
  have hdrop : (num2 n ++ raw.flatMap RawPiece.bytes).drop 2 = raw.flatMap RawPiece.bytes := rfl
  rw [piecesBody, fieldAt_num2_head _ hn, hcount, hdrop, chunks_flatMap 6 _ RawPiece.bytes_length, List.map_map]
  congr 1
  conv_rhs => rw [← List.map_id raw]
  exact List.map_congr_left fun r hr => RawPiece.read_bytes (hraw r hr)

/-! ## Entries and pieces -/

/-- A piece as the entry that names it. -/
def Piece.raw (q : Piece) : RawPiece := ⟨q.number, q.first.val, q.span⟩

/-- An entry names a shoe and a span of 1 to 4 (R8). -/
def RawPiece.inRange (r : RawPiece) : Prop := r.first < 16 ∧ 1 ≤ r.span ∧ r.span ≤ 4

theorem RawPiece.piece?_eq_some {r : RawPiece} {q : Piece} : r.piece? = some q ↔ r.inRange ∧ q.raw = r := by
  obtain ⟨number, first, span⟩ := r
  obtain ⟨qnumber, qfirst, qspan⟩ := q
  unfold RawPiece.piece?
  split_ifs with hfirst hspan
  · simp [RawPiece.inRange, Piece.raw, Fin.ext_iff, hfirst, hspan, eq_comm]
  · simp [RawPiece.inRange, hspan]
  · simp [RawPiece.inRange, hfirst]

/-- The entries of a list become pieces exactly when each is in range, and each is then the entry of its piece. -/
theorem mapM_piece?_eq_some {raw : List RawPiece} {ps : List Piece} :
    raw.mapM RawPiece.piece? = some ps ↔ (∀ r ∈ raw, r.inRange) ∧ ps.map Piece.raw = raw := by
  induction raw generalizing ps with
  | nil => simp [eq_comm]
  | cons r raw ih =>
    cases ps with
    | nil => simp [List.mapM_cons, Option.bind_eq_some_iff]
    | cons q ps =>
      simp only [List.mapM_cons, Option.pure_def, Option.bind_eq_bind, Option.bind_eq_some_iff,
        RawPiece.piece?_eq_some, ih, Option.some.injEq, List.cons.injEq, List.map_cons, List.forall_mem_cons]
      constructor
      · rintro ⟨_, ⟨hr, hq⟩, _, ⟨hraw, hps⟩, rfl, rfl⟩
        exact ⟨⟨hr, hraw⟩, hq, hps⟩
      · rintro ⟨⟨hr, hraw⟩, hq, hps⟩
        exact ⟨q, ⟨hr, hq⟩, ps, ⟨hraw, hps⟩, rfl, rfl⟩

/-- Entries in range are the entries of pieces. -/
theorem exists_pieces_of_inRange {raw : List RawPiece} (h : ∀ r ∈ raw, r.inRange) :
    ∃ ps : List Piece, ps.map Piece.raw = raw :=
  (Set.ext_iff.1 (Set.range_list_map Piece.raw) raw).2 fun r hr => ⟨⟨r.number, ⟨r.first, (h r hr).1⟩, r.span⟩, rfl⟩

/-! ## The five conditions -/

/-- The shoes an entry's span names, counted clockwise from its first shoe (introduction, "Numbering"). -/
def RawPiece.shoes (r : RawPiece) : List Nat := (List.range r.span).map fun k => (r.first + k) % 16

/-- The five conditions of R8 on N and the entries. -/
def Tiles (n : Nat) (raw : List RawPiece) : Prop :=
  5 ≤ n ∧ n ≤ 8 ∧ raw.length = n
    ∧ (∀ k ∈ List.range' 1 n, (raw.filter fun r => r.number = k).length = 1)
    ∧ (∀ r ∈ raw, r.inRange)
    ∧ ∀ i ∈ List.range 16, (raw.flatMap RawPiece.shoes).count i = 1

/-- Each number 1..n is that of exactly one piece, and the spans cover each shoe exactly once. -/
def numbersAndCovers (n : Nat) (ps : List Piece) : Bool :=
  (List.range n).all (fun k => (ps.filter fun p => p.number = k + 1).length = 1)
    && allShoes.all (fun i => (ps.flatMap fun p => spanShoes p.first p.span).count i = 1)

theorem Piece.raw_shoes (q : Piece) : q.raw.shoes = (spanShoes q.first q.span).map Fin.val := by
  simp [Piece.raw, RawPiece.shoes, spanShoes]

theorem count_raw_shoes (ps : List Piece) (i : ShoeIndex) :
    ((ps.map Piece.raw).flatMap RawPiece.shoes).count i.val
      = (ps.flatMap fun p => spanShoes p.first p.span).count i := by
  have h : (ps.map Piece.raw).flatMap RawPiece.shoes
      = (ps.flatMap fun p => spanShoes p.first p.span).map Fin.val := by
    simp [List.flatMap_map, List.map_flatMap, Piece.raw_shoes]
  rw [h, List.count_map_of_injective _ _ Fin.val_injective]

theorem filter_raw_length (ps : List Piece) (k : Nat) :
    ((ps.map Piece.raw).filter fun r => r.number = k).length = (ps.filter fun p => p.number = k).length := by
  rw [List.filter_map, List.length_map]
  rfl

theorem numbersAndCovers_iff {n : Nat} {ps : List Piece} :
    numbersAndCovers n ps = true
      ↔ (∀ k ∈ List.range' 1 n, ((ps.map Piece.raw).filter fun r => r.number = k).length = 1)
        ∧ ∀ i ∈ List.range 16, ((ps.map Piece.raw).flatMap RawPiece.shoes).count i = 1 := by
  have hnumbers : (∀ k ∈ List.range' 1 n, ((ps.map Piece.raw).filter fun r => r.number = k).length = 1)
      ↔ ∀ k ∈ List.range n, (ps.filter fun p => p.number = k + 1).length = 1 := by
    simp only [filter_raw_length, List.range'_eq_map_range, List.forall_mem_map, Nat.add_comm]
  have hcovers : (∀ i ∈ List.range 16, ((ps.map Piece.raw).flatMap RawPiece.shoes).count i = 1)
      ↔ ∀ i : ShoeIndex, (ps.flatMap fun p => spanShoes p.first p.span).count i = 1 := by
    simp only [← count_raw_shoes, List.mem_range]
    exact ⟨fun h i => h i.val i.isLt, fun h i hi => h ⟨i, hi⟩⟩
  rw [hnumbers, hcovers]
  simp [numbersAndCovers]

/-- The pieces in the order of their numbers 1..n. -/
def inNumberOrder (n : Nat) (ps : List Piece) : List Piece :=
  (List.range n).filterMap fun k => ps.find? fun p => p.number = k + 1

theorem mem_of_mem_inNumberOrder {n : Nat} {ps : List Piece} {q : Piece} (h : q ∈ inNumberOrder n ps) : q ∈ ps := by
  obtain ⟨k, -, hk⟩ := List.mem_filterMap.1 h
  exact List.mem_of_find?_eq_some hk

/-- With a piece of each number the order is 1, 2, …, n. -/
theorem inNumberOrder_numbers {n : Nat} {ps : List Piece}
    (h : ∀ k ∈ List.range n, (ps.filter fun p => p.number = k + 1).length = 1) :
    (inNumberOrder n ps).map (fun q => q.number) = List.range' 1 n := by
  have hfound : ∀ k ∈ List.range n,
      (ps.find? fun p => p.number = k + 1).map (fun q => q.number) = some (1 + k) := by
    intro k hk
    cases hq : ps.find? fun p => p.number = k + 1 with
    | none =>
      have hnone : (ps.filter fun p => p.number = k + 1) = [] :=
        List.filter_eq_nil_iff.2 (List.find?_eq_none.1 hq)
      simpa [hnone] using h k hk
    | some q =>
      have := List.find?_some hq
      simp only [decide_eq_true_eq] at this
      simp [this, Nat.add_comm]
  rw [inNumberOrder, List.map_filterMap, List.filterMap_congr hfound, List.range'_eq_map_range,
    ← List.filterMap_eq_map']

/-! ## The owner's judgement -/

/-- What the judgement of R8 comes to, of entries that are those of pieces. -/
theorem tiling_of_pieces {n : Nat} {raw : List RawPiece} {ps : List Piece} (hraw : raw.mapM RawPiece.piece? = some ps) :
    tiling n raw = if 5 ≤ n ∧ n ≤ 8 ∧ raw.length = n then
      if numbersAndCovers n ps then some (inNumberOrder n ps) else none else none := by
  simp only [tiling, hraw]
  rfl

/-- Entries that tile the shoes give their pieces in number order. -/
theorem tiling_of_tiles {n : Nat} {raw : List RawPiece} (h : Tiles n raw) :
    ∃ ps, tiling n raw = some ps ∧ ps.map (fun q => q.number) = List.range' 1 n ∧ ∀ q ∈ ps, q.raw ∈ raw := by
  obtain ⟨hlow, hhigh, hlength, hnumbers, hrange, hcovers⟩ := h
  obtain ⟨ps, rfl⟩ := exists_pieces_of_inRange hrange
  have hcheck : numbersAndCovers n ps = true := numbersAndCovers_iff.2 ⟨hnumbers, hcovers⟩
  refine ⟨inNumberOrder n ps, ?_, inNumberOrder_numbers fun k hk => ?_, fun q hq => ?_⟩
  · rw [tiling_of_pieces (mapM_piece?_eq_some.2 ⟨hrange, rfl⟩), if_pos ⟨hlow, hhigh, hlength⟩, if_pos hcheck]
  · rw [← filter_raw_length]
    exact hnumbers (k + 1) (by simpa [List.mem_range'_1, Nat.add_comm] using hk)
  · exact List.mem_map_of_mem (mem_of_mem_inNumberOrder hq)

/-- Entries that fail one of the five conditions give none. -/
theorem tiling_of_not_tiles {n : Nat} {raw : List RawPiece} (h : ¬ Tiles n raw) : tiling n raw = none := by
  cases hraw : raw.mapM RawPiece.piece? with
  | none => simp [tiling, hraw]
  | some ps =>
    obtain ⟨hrange, rfl⟩ := mapM_piece?_eq_some.1 hraw
    rw [tiling_of_pieces hraw]
    split_ifs with hsize hcheck
    · obtain ⟨hnumbers, hcovers⟩ := numbersAndCovers_iff.1 hcheck
      exact absurd ⟨hsize.1, hsize.2.1, hsize.2.2, hnumbers, hrange, hcovers⟩ h
    · rfl
    · rfl

/-! ## PLAN_PIECES -/

theorem exec_planPieces (l : Link) (body : List Byte) (s : State) :
    exec (.planPieces l body) s = request .planPieces l body (fun e => e.planPieces body) s := rfl

/-- The store with this piece list in the PLAN record `p`, its pieces part GIVEN (R8). -/
def RingStore.withPieces (r : RingStore) (p : PlanRing) (ps : List Piece) : RingStore :=
  { r with plan := some { p with pieces := some ps, marks := { p.marks with pieces := .given } } }

section Owner

variable {e : Ev} {p : PlanRing} {body : List Byte} {n : Nat} {raw : List RawPiece}

theorem Ev.planPieces_stores {ps : List Piece} (hp : e.rst.plan = some p) (hbody : piecesBody body = (n, raw))
    (htiling : tiling n raw = some ps) : e.planPieces body = (e.modRst fun _ => e.rst.withPieces p ps, .ok) := by
  simp only [Ev.planPieces, Ev.planWrite_of_plan hp, hbody, htiling, Ev.modPlanRing_of_plan hp, RingStore.withPieces]

theorem Ev.planPieces_refuses (hp : e.rst.plan = some p) (hbody : piecesBody body = (n, raw))
    (htiling : tiling n raw = none) : e.planPieces body = (e, .refuse .badValue) := by
  simp only [Ev.planPieces, Ev.planWrite_of_plan hp, hbody, htiling]

end Owner

/-- Settles O17: the body reads back as N and its entries, and the owner's judgement is the five conditions. -/
theorem planPiecesTakesOnlyATiling : Obligations.PlanPiecesTakesOnlyATiling := by
  intro s n raw p hears hconf hp hn hmin hmax hraw
  have hplan : (Ev.heard s .erector).rst.plan = some p := hp
  have hlength : (num2 n ++ raw.flatMap RawPiece.bytes).length = 2 + raw.length * 6 := by
    simp
  have hfits : bodyFits (num2 n ++ raw.flatMap RawPiece.bytes) = true := by
    simp only [bodyFits, maxBody, hlength, decide_eq_true_eq]
    omega
  have hlen : Request.planPieces.lengthOK .erector (num2 n ++ raw.flatMap RawPiece.bytes).length = true := by
    simp only [Request.lengthOK, hlength, Bool.and_eq_true, decide_eq_true_eq]
    omega
  have hbody : piecesBody (num2 n ++ raw.flatMap RawPiece.bytes) = (n, raw) := piecesBody_bytes hn hraw
  rw [exec_planPieces]
  obtain ⟨t, ht⟩ := request_next .planPieces (num2 n ++ raw.flatMap RawPiece.bytes)
    (fun e => e.planPieces (num2 n ++ raw.flatMap RawPiece.bytes)) hears hfits
  refine ⟨t, ht, ?_⟩
  split_ifs with htiles
  · obtain ⟨ps, htiling, hnumbers, hmem⟩ := tiling_of_tiles htiles
    obtain ⟨hstate, hheard, hanswer⟩ := request_leaves_store ht hears hconf rfl hlen
      (Ev.planPieces_stores hplan hbody htiling)
    have hcount : ps.length = n := by simpa using congrArg List.length hnumbers
    have hpieces : t.rst.plan.bind (fun q => q.pieces) = some ps := by rw [hstate]; rfl
    exact ⟨ps, hpieces, hstate, hnumbers, hmem, fun b hb => by simp [BuiltRing.count, hb, hcount], hheard, hanswer⟩
  · exact request_refuses ht hears hconf rfl hlen (Ev.planPieces_refuses hplan hbody (tiling_of_not_tiles htiles))

end Sys2Proof.Machine
end

section
/-! What a request comes to that a link hears, whatever its owner writes; and HOLD (R29). -/

namespace Sys2Proof.Machine

/-! ## A request that is heard -/

section HeardRequest

variable {q : Request} {l : Link} {body : List Byte} {own : Ev → Ev × Reply} {s t : State}

/-- Once the judgement and the end of its event are known, so is the next state: the interfaces apart it is the one the event
leaves, the link has been heard, and the reply stands on it. -/
theorem request_leaves {e : Ev} {x : State} {r : Reply} (hnext : request q l body own s = .next t)
    (hears : s.hears l = true) (hfits : bodyFits body = true)
    (hjudge : (Ev.heard s l).judgeRequest q l body own = (e, r))
    (hclose : e.close = { x with lif := (Ev.heard s l).lif }) :
    t = { x with lif := t.lif } ∧ s.heardOn t l ∧ t.answered l r := by
  have hframed : s.framed l (frameOf q.code body) (fun e => e.judgeRequest q l body own)
      = ({ x with lif := (Ev.heard s l).lif } : State).respond l (frameOf q.code body) r := by
    simp only [State.framed, Ev.validFrame_of_hears hears, hjudge, hclose]
  rw [request_heard hfits (State.hears_iff.1 hears).1, hframed] at hnext
  obtain rfl := Host.Outcome.next.inj hnext
  obtain ⟨hstate, hothers, hsilence, -⟩ :=
    ({ x with lif := (Ev.heard s l).lif } : State).respond_spec l (frameOf q.code body) r
  refine ⟨hstate, ⟨fun m hm => ?_, ?_⟩, State.answered_respond _ _ _ _⟩
  · rw [hothers m hm]
    exact PerLink.get_set_of_ne _ _ hm
  · rw [hsilence]
    simp [Ev.heard, Ev.modSilence_lif]

/-- Hearing a frame leaves the state as it was, the interfaces apart. -/
theorem Ev.heard_close (hears : s.hears l = true) : (Ev.heard s l).close = { s with lif := (Ev.heard s l).lif } :=
  Ev.heard_store_close hears s.rst

/-- A request that must wait for CONFIGURE is refused with WRONG_STATE before its body is looked at (R153 step 4). -/
theorem request_refuses_unconfigured (hnext : request q l body own s = .next t) (hears : s.hears l = true)
    (hfits : bodyFits body = true) (hrole : q.allowedOn l = true) (hconf : s.configured = false)
    (hearly : q.early = false) : s.refusedWith t l .wrongState := by
  have hjudge : (Ev.heard s l).judgeRequest q l body own = (Ev.heard s l, .refuse .wrongState) := by
    simp [Ev.judgeRequest, hrole, hconf, hearly]
  obtain ⟨hstate, hheard, hanswer⟩ := request_leaves hnext hears hfits hjudge (Ev.heard_close hears)
  exact ⟨⟨hstate, hheard⟩, hanswer⟩

end HeardRequest

/-! ## Events that move the hold-cause set alone -/

/-- The state with this hold-cause set, the stroke state that follows it, and one HOLD notice if the set changed (R24, R26). -/
def State.movedHold (s : State) (h : HoldSet) : State := { s.withHold h with ntu := s.noted (s.holdNews h) }

/-- The end of an event that has written the hold-cause set alone. -/
theorem Ev.heard_modHold_close (s : State) (l : Link) (f : HoldSet → HoldSet) :
    ((Ev.heard s l).modHold f).close = { s.movedHold (f s.hold) with lif := (Ev.heard s l).lif } := by
  simp [Ev.close_eq, Ev.heard, Ev.modSilence_modLif, Ev.modLif, Ev.modHold, Ev.begin, State.movedHold, State.withHold,
    State.noted, State.holdNews]

/-- In a steady state, to leave the set as it is moves nothing and tells nothing. -/
theorem State.movedHold_self {s : State} (hsteady : s.stc.phase.follow s.hold = s.stc.phase) :
    s.movedHold s.hold = s := by
  simp [State.movedHold, State.withHold, State.noted, State.holdNews, hsteady]

/-- Under a set with a member ADVANCING becomes HELD, and no other stroke state moves (R26). -/
theorem StrokePhase.follow_of_not_isEmpty (p : StrokePhase) {h : HoldSet} (hset : h.isEmpty = false) :
    p.follow h = if p = .advancing then .held else p := by
  cases p <;> simp [StrokePhase.follow, hset]

/-! ## HOLD -/

theorem exec_hold (l : Link) (body : List Byte) (s : State) :
    exec (.hold l body) s = request .hold l body (fun e => e.masterHold) s := rfl

/-- HOLD in a configured part is its owner's: MASTER_HOLD is put, and OK answered. -/
theorem Ev.judgeRequest_hold {e : Ev} (hconf : e.configured = true) :
    e.judgeRequest .hold .advance [] (fun e => e.masterHold) = (e.putHold .masterHold true, .ok) := by
  simp [Ev.judgeRequest, Request.allowedOn, Request.owner, Request.lengthOK, hconf, Ev.masterHold]

/-- Settles O27: HOLD writes the hold-cause set alone, so its event leaves `movedHold` of the set with MASTER_HOLD in it; that
set has a member, which fixes the stroke state and the permit, and is the old set if MASTER_HOLD was in it. -/
theorem holdAddsMasterHold : Obligations.HoldAddsMasterHold := by
  intro s hears
  rw [exec_hold]
  obtain ⟨t, ht⟩ := request_next .hold [] (fun e => e.masterHold) hears rfl
  refine ⟨t, ht, fun hconf => request_refuses_unconfigured ht hears rfl rfl hconf rfl, fun hconf => ?_⟩
  obtain ⟨hstate, hheard, hanswer⟩ := request_leaves (x := s.movedHold (s.hold.put .masterHold true)) ht hears rfl
    (Ev.judgeRequest_hold hconf) (Ev.heard_modHold_close s .advance fun h => h.put .masterHold true)
  have hphase : t.stc.phase = if s.stc.phase = .advancing then .held else s.stc.phase := by
    rw [hstate]
    exact s.stc.phase.follow_of_not_isEmpty (s.hold.isEmpty_put_true .masterHold)
  have hpermit : t.permit = false := by
    rw [State.permit, hphase]
    split_ifs with h <;> simp [h]
  refine ⟨hstate, hheard, hanswer, hpermit, hphase, fun hpresent => ⟨?_, hheard⟩⟩
  have hsame : s.hold.put .masterHold true = s.hold := hpresent ▸ s.hold.put_has .masterHold
  rwa [hsame, State.movedHold_self (State.hears_iff.1 hears).2.2] at hstate

end Sys2Proof.Machine
end
